-- ==== Sys2Proof/Config.lean ====
section
/-! DEFINITION. The constants of the block (00_scope.md R4, R5; 10_state.md R19), the OPEN parameters no rule reads, and
the free values. -/

namespace Sys2Proof.Config

/-- `OUT_LEN`: bytes of the Output Packet (R4). -/
@[simp] abbrev outLen : Nat := 39

/-- `IN_LEN`: bytes of the Input Packet (R4). -/
@[simp] abbrev inLen : Nat := 96

/-- `XFER_COUNT`: byte exchanges per transaction (R4). -/
@[simp] abbrev xferCount : Nat := 96

/-- `PAD`: the byte transmitted at positions 39 to 95 (R4). -/
abbrev pad : BitVec 8 := 0xCD

/-- `PAD_COUNT` (R4). -/
@[simp] abbrev padCount : Nat := 57

/-- `N_TPAD`: touchpad sub-records (R4). -/
@[simp] abbrev nTpad : Nat := 3

/-- `N_FINGER`: finger entries per sub-record (R4). -/
@[simp] abbrev nFinger : Nat := 2

/-- `N_CH`: pulse-width channels (R4). -/
@[simp] abbrev nCh : Nat := 12

/-- `N_BTN`: digital buttons (R5). -/
@[simp] abbrev nBtn : Nat := 18

/-- Clock polarity and phase of the serial bus (92_eei_decisions.md D24). -/
structure BusModeValue where
  cpol : Bool
  cpha : Bool
  deriving DecidableEq, Repr, Inhabited

/-- Which bit of a byte is shifted first (92_eei_decisions.md D26). -/
inductive BitOrder where
  | lsbFirst | msbFirst
  deriving DecidableEq, Repr, Inhabited

/-- The electrical level of "asserted" (92_eei_decisions.md D27). -/
inductive Polarity where
  | activeLow | activeHigh
  deriving DecidableEq, Repr, Inhabited

/-- `BUS_MODE`, an OPEN parameter with no default (R5, D24). No rule reads it, nor does the model. -/
opaque busMode : BusModeValue

/-- `BUS_CLOCK_HZ`, an OPEN parameter with no default (R5, D25). No rule reads it, nor does the model. -/
opaque busClockHz : Nat

/-- `BUS_BIT_ORDER`, an OPEN parameter with no default (R5, D26). No rule reads it, nor does the model. -/
opaque busBitOrder : BitOrder

/-- `SEL_POLARITY`, an OPEN parameter with no default (R5, D27). No rule reads it, nor does the model. -/
opaque selPolarity : Polarity

/-- The unspecified bytes RST leaves in the Input Packet (70_reset_and_hazards.md R160, R161: "each byte any value, not
necessarily the same after each reset"). A FREE VALUE, applied to a counter of `State` that never repeats; it has no
body, so no proof can know a value of it. Log entry 6. -/
opaque freeByte : Nat → BitVec 8

end Sys2Proof.Config
end

