-- ==== Sys2Proof/Word.lean ====
section
/-! DEFINITION. The word types: bytes, request words, scalar payloads, and packets as vectors of byte registers. -/

namespace Sys2Proof

/-- A byte register or a byte on the wire. Bit 0 is the least significant (00_scope.md R6). -/
abbrev Byte := BitVec 8

/-- The request word (30_encoding.md R81). -/
abbrev ReqWord := BitVec 16

/-- A scalar payload or response (00_scope.md R5: scalar data width 16 bits). -/
abbrev Scalar := BitVec 16

/-- A packet register: `n` byte registers, byte 0 the first on the wire (00_scope.md R7). -/
abbrev Packet (n : Nat) := Vector Byte n

/-- The Output Packet, 39 bytes (10_state.md R10). -/
abbrev OutPacket := Packet Config.outLen

/-- The Input Packet, 96 bytes (10_state.md R11). -/
abbrev InPacket := Packet Config.inLen

end Sys2Proof
end

