-- ==== Sys2Proof/Syntax.lean ====
section
/-! DEFINITION. The abstract syntax: requests, the named fields of both packets, and one constructor of `Instr` per
row of the opcode table. -/

namespace Sys2Proof

/-- One request on the host port (10_state.md R24): the 16-bit request word and the payload `req_data` as bytes,
byte `i` being bits `8i+7:8i` (30_encoding.md R82). A list, so that a payload of the wrong length can be written
down and refused (40_codec_access.md R95, R97). -/
structure Request where
  word : ReqWord
  payload : List Byte
  deriving DecidableEq, Repr

/-- The type of a field (30_encoding.md R50). -/
inductive FieldType where
  | bool | u4 | u6 | u7 | u8 | u12 | u16 | s16
  deriving DecidableEq, Repr

/-- The seventy fields of format OUT in FID order (30_encoding.md R55 to R58, R84). -/
inductive OutField where
  | ovrLed
  | ovrRumbleLow
  | ovrRumbleHigh
  | ovrLStickX
  | ovrLStickY
  | ovrRStickX
  | ovrRStickY
  | ovrL2Analog
  | ovrR2Analog
  | ovrLTpadX
  | ovrLTpadY
  | ovrRTpadX
  | ovrRTpadY
  | ovrTiltX
  | ovrTiltY
  | ovrDPadUp
  | ovrDPadRight
  | ovrDPadDown
  | ovrDPadLeft
  | ovrSquare
  | ovrCross
  | ovrCircle
  | ovrTriangle
  | ovrL1
  | ovrR1
  | ovrL2
  | ovrR2
  | ovrL3
  | ovrR3
  | ovrShare
  | ovrOptions
  | ovrPs
  | ovrTpadPress
  | ledRed
  | ledGreen
  | ledBlue
  | blinkOn
  | blinkOff
  | rumbleLow
  | rumbleHigh
  | pwLStickX
  | pwLStickY
  | pwRStickX
  | pwRStickY
  | pwL2Analog
  | pwR2Analog
  | pwLTpadX
  | pwLTpadY
  | pwRTpadX
  | pwRTpadY
  | pwTiltX
  | pwTiltY
  | stDPadUp
  | stDPadRight
  | stDPadDown
  | stDPadLeft
  | stSquare
  | stCross
  | stCircle
  | stTriangle
  | stL1
  | stR1
  | stL2
  | stR2
  | stL3
  | stR3
  | stShare
  | stOptions
  | stPs
  | stTpadPress
  deriving DecidableEq, Repr

/-- The seventy fields of format IN in FID order (30_encoding.md R61 to R75, R84). -/
inductive InField where
  | reportId
  | lStickX
  | lStickY
  | rStickX
  | rStickY
  | dPadUp
  | dPadRight
  | dPadDown
  | dPadLeft
  | square
  | cross
  | circle
  | triangle
  | l1
  | r1
  | l2
  | r2
  | l3
  | r3
  | share
  | options
  | ps
  | tpadPress
  | counter
  | l2Analog
  | r2Analog
  | gyroX
  | gyroY
  | gyroZ
  | accelX
  | accelY
  | accelZ
  | battery
  | usbPresent
  | tpadPacketCount
  | tpadCounter
  | touchId
  | noContact
  | touchX
  | touchY
  | echoLStickX
  | echoLStickY
  | echoRStickX
  | echoRStickY
  | echoL2Analog
  | echoR2Analog
  | echoLTpadX
  | echoLTpadY
  | echoRTpadX
  | echoRTpadY
  | echoTiltX
  | echoTiltY
  | echoBtnDPadUp
  | echoBtnDPadRight
  | echoBtnDPadDown
  | echoBtnDPadLeft
  | echoBtnSquare
  | echoBtnCross
  | echoBtnCircle
  | echoBtnTriangle
  | echoBtnL1
  | echoBtnR1
  | echoBtnL2
  | echoBtnR2
  | echoBtnL3
  | echoBtnR3
  | echoBtnShare
  | echoBtnOptions
  | echoBtnPs
  | echoBtnTpadPress
  deriving DecidableEq, Repr

/-- The five reserved operation codes (30_encoding.md R86). -/
inductive ReservedOp where
  | op0 | opC | opD | opE | opF
  deriving DecidableEq, Repr

/-- The instructions: one constructor per row of the opcode table. `t` and `f` are the index fields `T` and `F` of the
request word, which GETI and SETI use (30_encoding.md R81), `v` the 16-bit payload of a set (R82); every value of them can
be encoded, the illegal ones too. GETO and SETO have no index operand: a word of theirs with `T` or `F` not 0 is
rejected by the decoder as IndexRange (R78, R81). The constructors that carry operands stand first, because Lean's
compiler admits at most 245 of them (log entry 15). -/
inductive Instr where
  | setoOvrLed (v : Scalar)
  | setoOvrRumbleLow (v : Scalar)
  | setoOvrRumbleHigh (v : Scalar)
  | setoOvrLStickX (v : Scalar)
  | setoOvrLStickY (v : Scalar)
  | setoOvrRStickX (v : Scalar)
  | setoOvrRStickY (v : Scalar)
  | setoOvrL2Analog (v : Scalar)
  | setoOvrR2Analog (v : Scalar)
  | setoOvrLTpadX (v : Scalar)
  | setoOvrLTpadY (v : Scalar)
  | setoOvrRTpadX (v : Scalar)
  | setoOvrRTpadY (v : Scalar)
  | setoOvrTiltX (v : Scalar)
  | setoOvrTiltY (v : Scalar)
  | setoOvrDPadUp (v : Scalar)
  | setoOvrDPadRight (v : Scalar)
  | setoOvrDPadDown (v : Scalar)
  | setoOvrDPadLeft (v : Scalar)
  | setoOvrSquare (v : Scalar)
  | setoOvrCross (v : Scalar)
  | setoOvrCircle (v : Scalar)
  | setoOvrTriangle (v : Scalar)
  | setoOvrL1 (v : Scalar)
  | setoOvrR1 (v : Scalar)
  | setoOvrL2 (v : Scalar)
  | setoOvrR2 (v : Scalar)
  | setoOvrL3 (v : Scalar)
  | setoOvrR3 (v : Scalar)
  | setoOvrShare (v : Scalar)
  | setoOvrOptions (v : Scalar)
  | setoOvrPs (v : Scalar)
  | setoOvrTpadPress (v : Scalar)
  | setoLedRed (v : Scalar)
  | setoLedGreen (v : Scalar)
  | setoLedBlue (v : Scalar)
  | setoBlinkOn (v : Scalar)
  | setoBlinkOff (v : Scalar)
  | setoRumbleLow (v : Scalar)
  | setoRumbleHigh (v : Scalar)
  | setoPwLStickX (v : Scalar)
  | setoPwLStickY (v : Scalar)
  | setoPwRStickX (v : Scalar)
  | setoPwRStickY (v : Scalar)
  | setoPwL2Analog (v : Scalar)
  | setoPwR2Analog (v : Scalar)
  | setoPwLTpadX (v : Scalar)
  | setoPwLTpadY (v : Scalar)
  | setoPwRTpadX (v : Scalar)
  | setoPwRTpadY (v : Scalar)
  | setoPwTiltX (v : Scalar)
  | setoPwTiltY (v : Scalar)
  | setoStDPadUp (v : Scalar)
  | setoStDPadRight (v : Scalar)
  | setoStDPadDown (v : Scalar)
  | setoStDPadLeft (v : Scalar)
  | setoStSquare (v : Scalar)
  | setoStCross (v : Scalar)
  | setoStCircle (v : Scalar)
  | setoStTriangle (v : Scalar)
  | setoStL1 (v : Scalar)
  | setoStR1 (v : Scalar)
  | setoStL2 (v : Scalar)
  | setoStR2 (v : Scalar)
  | setoStL3 (v : Scalar)
  | setoStR3 (v : Scalar)
  | setoStShare (v : Scalar)
  | setoStOptions (v : Scalar)
  | setoStPs (v : Scalar)
  | setoStTpadPress (v : Scalar)
  | getiReportId (t f : BitVec 2)
  | getiLStickX (t f : BitVec 2)
  | getiLStickY (t f : BitVec 2)
  | getiRStickX (t f : BitVec 2)
  | getiRStickY (t f : BitVec 2)
  | getiDPadUp (t f : BitVec 2)
  | getiDPadRight (t f : BitVec 2)
  | getiDPadDown (t f : BitVec 2)
  | getiDPadLeft (t f : BitVec 2)
  | getiSquare (t f : BitVec 2)
  | getiCross (t f : BitVec 2)
  | getiCircle (t f : BitVec 2)
  | getiTriangle (t f : BitVec 2)
  | getiL1 (t f : BitVec 2)
  | getiR1 (t f : BitVec 2)
  | getiL2 (t f : BitVec 2)
  | getiR2 (t f : BitVec 2)
  | getiL3 (t f : BitVec 2)
  | getiR3 (t f : BitVec 2)
  | getiShare (t f : BitVec 2)
  | getiOptions (t f : BitVec 2)
  | getiPs (t f : BitVec 2)
  | getiTpadPress (t f : BitVec 2)
  | getiCounter (t f : BitVec 2)
  | getiL2Analog (t f : BitVec 2)
  | getiR2Analog (t f : BitVec 2)
  | getiGyroX (t f : BitVec 2)
  | getiGyroY (t f : BitVec 2)
  | getiGyroZ (t f : BitVec 2)
  | getiAccelX (t f : BitVec 2)
  | getiAccelY (t f : BitVec 2)
  | getiAccelZ (t f : BitVec 2)
  | getiBattery (t f : BitVec 2)
  | getiUsbPresent (t f : BitVec 2)
  | getiTpadPacketCount (t f : BitVec 2)
  | getiTpadCounter (t f : BitVec 2)
  | getiTouchId (t f : BitVec 2)
  | getiNoContact (t f : BitVec 2)
  | getiTouchX (t f : BitVec 2)
  | getiTouchY (t f : BitVec 2)
  | getiEchoLStickX (t f : BitVec 2)
  | getiEchoLStickY (t f : BitVec 2)
  | getiEchoRStickX (t f : BitVec 2)
  | getiEchoRStickY (t f : BitVec 2)
  | getiEchoL2Analog (t f : BitVec 2)
  | getiEchoR2Analog (t f : BitVec 2)
  | getiEchoLTpadX (t f : BitVec 2)
  | getiEchoLTpadY (t f : BitVec 2)
  | getiEchoRTpadX (t f : BitVec 2)
  | getiEchoRTpadY (t f : BitVec 2)
  | getiEchoTiltX (t f : BitVec 2)
  | getiEchoTiltY (t f : BitVec 2)
  | getiEchoBtnDPadUp (t f : BitVec 2)
  | getiEchoBtnDPadRight (t f : BitVec 2)
  | getiEchoBtnDPadDown (t f : BitVec 2)
  | getiEchoBtnDPadLeft (t f : BitVec 2)
  | getiEchoBtnSquare (t f : BitVec 2)
  | getiEchoBtnCross (t f : BitVec 2)
  | getiEchoBtnCircle (t f : BitVec 2)
  | getiEchoBtnTriangle (t f : BitVec 2)
  | getiEchoBtnL1 (t f : BitVec 2)
  | getiEchoBtnR1 (t f : BitVec 2)
  | getiEchoBtnL2 (t f : BitVec 2)
  | getiEchoBtnR2 (t f : BitVec 2)
  | getiEchoBtnL3 (t f : BitVec 2)
  | getiEchoBtnR3 (t f : BitVec 2)
  | getiEchoBtnShare (t f : BitVec 2)
  | getiEchoBtnOptions (t f : BitVec 2)
  | getiEchoBtnPs (t f : BitVec 2)
  | getiEchoBtnTpadPress (t f : BitVec 2)
  | setiReportId (t f : BitVec 2) (v : Scalar)
  | setiLStickX (t f : BitVec 2) (v : Scalar)
  | setiLStickY (t f : BitVec 2) (v : Scalar)
  | setiRStickX (t f : BitVec 2) (v : Scalar)
  | setiRStickY (t f : BitVec 2) (v : Scalar)
  | setiDPadUp (t f : BitVec 2) (v : Scalar)
  | setiDPadRight (t f : BitVec 2) (v : Scalar)
  | setiDPadDown (t f : BitVec 2) (v : Scalar)
  | setiDPadLeft (t f : BitVec 2) (v : Scalar)
  | setiSquare (t f : BitVec 2) (v : Scalar)
  | setiCross (t f : BitVec 2) (v : Scalar)
  | setiCircle (t f : BitVec 2) (v : Scalar)
  | setiTriangle (t f : BitVec 2) (v : Scalar)
  | setiL1 (t f : BitVec 2) (v : Scalar)
  | setiR1 (t f : BitVec 2) (v : Scalar)
  | setiL2 (t f : BitVec 2) (v : Scalar)
  | setiR2 (t f : BitVec 2) (v : Scalar)
  | setiL3 (t f : BitVec 2) (v : Scalar)
  | setiR3 (t f : BitVec 2) (v : Scalar)
  | setiShare (t f : BitVec 2) (v : Scalar)
  | setiOptions (t f : BitVec 2) (v : Scalar)
  | setiPs (t f : BitVec 2) (v : Scalar)
  | setiTpadPress (t f : BitVec 2) (v : Scalar)
  | setiCounter (t f : BitVec 2) (v : Scalar)
  | setiL2Analog (t f : BitVec 2) (v : Scalar)
  | setiR2Analog (t f : BitVec 2) (v : Scalar)
  | setiGyroX (t f : BitVec 2) (v : Scalar)
  | setiGyroY (t f : BitVec 2) (v : Scalar)
  | setiGyroZ (t f : BitVec 2) (v : Scalar)
  | setiAccelX (t f : BitVec 2) (v : Scalar)
  | setiAccelY (t f : BitVec 2) (v : Scalar)
  | setiAccelZ (t f : BitVec 2) (v : Scalar)
  | setiBattery (t f : BitVec 2) (v : Scalar)
  | setiUsbPresent (t f : BitVec 2) (v : Scalar)
  | setiTpadPacketCount (t f : BitVec 2) (v : Scalar)
  | setiTpadCounter (t f : BitVec 2) (v : Scalar)
  | setiTouchId (t f : BitVec 2) (v : Scalar)
  | setiNoContact (t f : BitVec 2) (v : Scalar)
  | setiTouchX (t f : BitVec 2) (v : Scalar)
  | setiTouchY (t f : BitVec 2) (v : Scalar)
  | setiEchoLStickX (t f : BitVec 2) (v : Scalar)
  | setiEchoLStickY (t f : BitVec 2) (v : Scalar)
  | setiEchoRStickX (t f : BitVec 2) (v : Scalar)
  | setiEchoRStickY (t f : BitVec 2) (v : Scalar)
  | setiEchoL2Analog (t f : BitVec 2) (v : Scalar)
  | setiEchoR2Analog (t f : BitVec 2) (v : Scalar)
  | setiEchoLTpadX (t f : BitVec 2) (v : Scalar)
  | setiEchoLTpadY (t f : BitVec 2) (v : Scalar)
  | setiEchoRTpadX (t f : BitVec 2) (v : Scalar)
  | setiEchoRTpadY (t f : BitVec 2) (v : Scalar)
  | setiEchoTiltX (t f : BitVec 2) (v : Scalar)
  | setiEchoTiltY (t f : BitVec 2) (v : Scalar)
  | setiEchoBtnDPadUp (t f : BitVec 2) (v : Scalar)
  | setiEchoBtnDPadRight (t f : BitVec 2) (v : Scalar)
  | setiEchoBtnDPadDown (t f : BitVec 2) (v : Scalar)
  | setiEchoBtnDPadLeft (t f : BitVec 2) (v : Scalar)
  | setiEchoBtnSquare (t f : BitVec 2) (v : Scalar)
  | setiEchoBtnCross (t f : BitVec 2) (v : Scalar)
  | setiEchoBtnCircle (t f : BitVec 2) (v : Scalar)
  | setiEchoBtnTriangle (t f : BitVec 2) (v : Scalar)
  | setiEchoBtnL1 (t f : BitVec 2) (v : Scalar)
  | setiEchoBtnR1 (t f : BitVec 2) (v : Scalar)
  | setiEchoBtnL2 (t f : BitVec 2) (v : Scalar)
  | setiEchoBtnR2 (t f : BitVec 2) (v : Scalar)
  | setiEchoBtnL3 (t f : BitVec 2) (v : Scalar)
  | setiEchoBtnR3 (t f : BitVec 2) (v : Scalar)
  | setiEchoBtnShare (t f : BitVec 2) (v : Scalar)
  | setiEchoBtnOptions (t f : BitVec 2) (v : Scalar)
  | setiEchoBtnPs (t f : BitVec 2) (v : Scalar)
  | setiEchoBtnTpadPress (t f : BitVec 2) (v : Scalar)
  | wro (b : OutPacket)
  | wri (b : InPacket)
  | setind (red green blue blinkOn blinkOff : Byte)
  | reservedOp0 (low : BitVec 12)
  | reservedOpC (low : BitVec 12)
  | reservedOpD (low : BitVec 12)
  | reservedOpE (low : BitVec 12)
  | reservedOpF (low : BitVec 12)
  | getoOvrLed
  | getoOvrRumbleLow
  | getoOvrRumbleHigh
  | getoOvrLStickX
  | getoOvrLStickY
  | getoOvrRStickX
  | getoOvrRStickY
  | getoOvrL2Analog
  | getoOvrR2Analog
  | getoOvrLTpadX
  | getoOvrLTpadY
  | getoOvrRTpadX
  | getoOvrRTpadY
  | getoOvrTiltX
  | getoOvrTiltY
  | getoOvrDPadUp
  | getoOvrDPadRight
  | getoOvrDPadDown
  | getoOvrDPadLeft
  | getoOvrSquare
  | getoOvrCross
  | getoOvrCircle
  | getoOvrTriangle
  | getoOvrL1
  | getoOvrR1
  | getoOvrL2
  | getoOvrR2
  | getoOvrL3
  | getoOvrR3
  | getoOvrShare
  | getoOvrOptions
  | getoOvrPs
  | getoOvrTpadPress
  | getoLedRed
  | getoLedGreen
  | getoLedBlue
  | getoBlinkOn
  | getoBlinkOff
  | getoRumbleLow
  | getoRumbleHigh
  | getoPwLStickX
  | getoPwLStickY
  | getoPwRStickX
  | getoPwRStickY
  | getoPwL2Analog
  | getoPwR2Analog
  | getoPwLTpadX
  | getoPwLTpadY
  | getoPwRTpadX
  | getoPwRTpadY
  | getoPwTiltX
  | getoPwTiltY
  | getoStDPadUp
  | getoStDPadRight
  | getoStDPadDown
  | getoStDPadLeft
  | getoStSquare
  | getoStCross
  | getoStCircle
  | getoStTriangle
  | getoStL1
  | getoStR1
  | getoStL2
  | getoStR2
  | getoStL3
  | getoStR3
  | getoStShare
  | getoStOptions
  | getoStPs
  | getoStTpadPress
  | rdo
  | rdi
  | exec
  | rst
  deriving DecidableEq, Repr

/-- The shape of an instruction: its operation (30_encoding.md R80) with the field named, where it names one, as an
operand. `Instr.form` and `Instr.ofForm` go between the two. -/
inductive Form where
  | geto (x : OutField)
  | seto (x : OutField) (v : Scalar)
  | geti (x : InField) (t f : BitVec 2)
  | seti (x : InField) (t f : BitVec 2) (v : Scalar)
  | rdo
  | wro (b : OutPacket)
  | rdi
  | wri (b : InPacket)
  | setind (red green blue blinkOn blinkOff : Byte)
  | exec
  | rst
  | reserved (o : ReservedOp) (low : BitVec 12)
  deriving DecidableEq, Repr

end Sys2Proof
end

