-- ==== Sys2Proof/Machine/Fields.lean ====
section
/-! DEFINITION. The field tables of both formats, copied row by row from 30_encoding.md, and the form of each
instruction. -/

namespace Sys2Proof.Machine

/-- A row of a field table (30_encoding.md R50): field identifier, bit address for indices (0, 0), width, type, and the
extents of the indices `T` and `F` (R78; both 1 for a field that is not indexed). -/
structure FieldRow where
  fid : BitVec 8
  a0 : Nat
  width : Nat
  type : FieldType
  nT : Nat
  nF : Nat
  deriving DecidableEq, Repr

/-- The field table of format OUT (30_encoding.md R55 to R58). -/
def outRow : OutField → FieldRow
  -- 30_encoding.md R55
  | .ovrLed => ⟨0x00, 0, 1, .bool, 1, 1⟩
  | .ovrRumbleLow => ⟨0x01, 1, 1, .bool, 1, 1⟩
  | .ovrRumbleHigh => ⟨0x02, 2, 1, .bool, 1, 1⟩
  | .ovrLStickX => ⟨0x03, 3, 1, .bool, 1, 1⟩
  | .ovrLStickY => ⟨0x04, 4, 1, .bool, 1, 1⟩
  | .ovrRStickX => ⟨0x05, 5, 1, .bool, 1, 1⟩
  | .ovrRStickY => ⟨0x06, 6, 1, .bool, 1, 1⟩
  | .ovrL2Analog => ⟨0x07, 7, 1, .bool, 1, 1⟩
  | .ovrR2Analog => ⟨0x08, 8, 1, .bool, 1, 1⟩
  | .ovrLTpadX => ⟨0x09, 9, 1, .bool, 1, 1⟩
  | .ovrLTpadY => ⟨0x0A, 10, 1, .bool, 1, 1⟩
  | .ovrRTpadX => ⟨0x0B, 11, 1, .bool, 1, 1⟩
  | .ovrRTpadY => ⟨0x0C, 12, 1, .bool, 1, 1⟩
  | .ovrTiltX => ⟨0x0D, 13, 1, .bool, 1, 1⟩
  | .ovrTiltY => ⟨0x0E, 14, 1, .bool, 1, 1⟩
  | .ovrDPadUp => ⟨0x0F, 15, 1, .bool, 1, 1⟩
  | .ovrDPadRight => ⟨0x10, 16, 1, .bool, 1, 1⟩
  | .ovrDPadDown => ⟨0x11, 17, 1, .bool, 1, 1⟩
  | .ovrDPadLeft => ⟨0x12, 18, 1, .bool, 1, 1⟩
  | .ovrSquare => ⟨0x13, 19, 1, .bool, 1, 1⟩
  | .ovrCross => ⟨0x14, 20, 1, .bool, 1, 1⟩
  | .ovrCircle => ⟨0x15, 21, 1, .bool, 1, 1⟩
  | .ovrTriangle => ⟨0x16, 22, 1, .bool, 1, 1⟩
  | .ovrL1 => ⟨0x17, 23, 1, .bool, 1, 1⟩
  | .ovrR1 => ⟨0x18, 24, 1, .bool, 1, 1⟩
  | .ovrL2 => ⟨0x19, 25, 1, .bool, 1, 1⟩
  | .ovrR2 => ⟨0x1A, 26, 1, .bool, 1, 1⟩
  | .ovrL3 => ⟨0x1B, 27, 1, .bool, 1, 1⟩
  | .ovrR3 => ⟨0x1C, 28, 1, .bool, 1, 1⟩
  | .ovrShare => ⟨0x1D, 29, 1, .bool, 1, 1⟩
  | .ovrOptions => ⟨0x1E, 30, 1, .bool, 1, 1⟩
  | .ovrPs => ⟨0x1F, 31, 1, .bool, 1, 1⟩
  | .ovrTpadPress => ⟨0x20, 32, 1, .bool, 1, 1⟩
  -- 30_encoding.md R56
  | .ledRed => ⟨0x21, 40, 8, .u8, 1, 1⟩
  | .ledGreen => ⟨0x22, 48, 8, .u8, 1, 1⟩
  | .ledBlue => ⟨0x23, 56, 8, .u8, 1, 1⟩
  | .blinkOn => ⟨0x24, 64, 8, .u8, 1, 1⟩
  | .blinkOff => ⟨0x25, 72, 8, .u8, 1, 1⟩
  | .rumbleLow => ⟨0x26, 80, 8, .u8, 1, 1⟩
  | .rumbleHigh => ⟨0x27, 88, 8, .u8, 1, 1⟩
  -- 30_encoding.md R57
  | .pwLStickX => ⟨0x28, 96, 16, .u16, 1, 1⟩
  | .pwLStickY => ⟨0x29, 112, 16, .u16, 1, 1⟩
  | .pwRStickX => ⟨0x2A, 128, 16, .u16, 1, 1⟩
  | .pwRStickY => ⟨0x2B, 144, 16, .u16, 1, 1⟩
  | .pwL2Analog => ⟨0x2C, 160, 16, .u16, 1, 1⟩
  | .pwR2Analog => ⟨0x2D, 176, 16, .u16, 1, 1⟩
  | .pwLTpadX => ⟨0x2E, 192, 16, .u16, 1, 1⟩
  | .pwLTpadY => ⟨0x2F, 208, 16, .u16, 1, 1⟩
  | .pwRTpadX => ⟨0x30, 224, 16, .u16, 1, 1⟩
  | .pwRTpadY => ⟨0x31, 240, 16, .u16, 1, 1⟩
  | .pwTiltX => ⟨0x32, 256, 16, .u16, 1, 1⟩
  | .pwTiltY => ⟨0x33, 272, 16, .u16, 1, 1⟩
  -- 30_encoding.md R58
  | .stDPadUp => ⟨0x34, 288, 1, .bool, 1, 1⟩
  | .stDPadRight => ⟨0x35, 289, 1, .bool, 1, 1⟩
  | .stDPadDown => ⟨0x36, 290, 1, .bool, 1, 1⟩
  | .stDPadLeft => ⟨0x37, 291, 1, .bool, 1, 1⟩
  | .stSquare => ⟨0x38, 292, 1, .bool, 1, 1⟩
  | .stCross => ⟨0x39, 293, 1, .bool, 1, 1⟩
  | .stCircle => ⟨0x3A, 294, 1, .bool, 1, 1⟩
  | .stTriangle => ⟨0x3B, 295, 1, .bool, 1, 1⟩
  | .stL1 => ⟨0x3C, 296, 1, .bool, 1, 1⟩
  | .stR1 => ⟨0x3D, 297, 1, .bool, 1, 1⟩
  | .stL2 => ⟨0x3E, 298, 1, .bool, 1, 1⟩
  | .stR2 => ⟨0x3F, 299, 1, .bool, 1, 1⟩
  | .stL3 => ⟨0x40, 300, 1, .bool, 1, 1⟩
  | .stR3 => ⟨0x41, 301, 1, .bool, 1, 1⟩
  | .stShare => ⟨0x42, 302, 1, .bool, 1, 1⟩
  | .stOptions => ⟨0x43, 303, 1, .bool, 1, 1⟩
  | .stPs => ⟨0x44, 304, 1, .bool, 1, 1⟩
  | .stTpadPress => ⟨0x45, 305, 1, .bool, 1, 1⟩

/-- The field table of format IN (30_encoding.md R61 to R75). -/
def inRow : InField → FieldRow
  -- 30_encoding.md R61
  | .reportId => ⟨0x00, 64, 8, .u8, 1, 1⟩
  -- 30_encoding.md R62
  | .lStickX => ⟨0x01, 72, 8, .u8, 1, 1⟩
  | .lStickY => ⟨0x02, 80, 8, .u8, 1, 1⟩
  | .rStickX => ⟨0x03, 88, 8, .u8, 1, 1⟩
  | .rStickY => ⟨0x04, 96, 8, .u8, 1, 1⟩
  -- 30_encoding.md R63
  | .dPadUp => ⟨0x05, 104, 1, .bool, 1, 1⟩
  | .dPadRight => ⟨0x06, 105, 1, .bool, 1, 1⟩
  | .dPadDown => ⟨0x07, 106, 1, .bool, 1, 1⟩
  | .dPadLeft => ⟨0x08, 107, 1, .bool, 1, 1⟩
  | .square => ⟨0x09, 108, 1, .bool, 1, 1⟩
  | .cross => ⟨0x0A, 109, 1, .bool, 1, 1⟩
  | .circle => ⟨0x0B, 110, 1, .bool, 1, 1⟩
  | .triangle => ⟨0x0C, 111, 1, .bool, 1, 1⟩
  -- 30_encoding.md R64
  | .l1 => ⟨0x0D, 112, 1, .bool, 1, 1⟩
  | .r1 => ⟨0x0E, 113, 1, .bool, 1, 1⟩
  | .l2 => ⟨0x0F, 114, 1, .bool, 1, 1⟩
  | .r2 => ⟨0x10, 115, 1, .bool, 1, 1⟩
  | .l3 => ⟨0x11, 116, 1, .bool, 1, 1⟩
  | .r3 => ⟨0x12, 117, 1, .bool, 1, 1⟩
  | .share => ⟨0x13, 118, 1, .bool, 1, 1⟩
  | .options => ⟨0x14, 119, 1, .bool, 1, 1⟩
  -- 30_encoding.md R65
  | .ps => ⟨0x15, 120, 1, .bool, 1, 1⟩
  | .tpadPress => ⟨0x16, 121, 1, .bool, 1, 1⟩
  | .counter => ⟨0x17, 122, 6, .u6, 1, 1⟩
  -- 30_encoding.md R66
  | .l2Analog => ⟨0x18, 128, 8, .u8, 1, 1⟩
  | .r2Analog => ⟨0x19, 136, 8, .u8, 1, 1⟩
  -- 30_encoding.md R68
  | .gyroX => ⟨0x1A, 168, 16, .s16, 1, 1⟩
  | .gyroY => ⟨0x1B, 184, 16, .s16, 1, 1⟩
  | .gyroZ => ⟨0x1C, 200, 16, .s16, 1, 1⟩
  | .accelX => ⟨0x1D, 216, 16, .s16, 1, 1⟩
  | .accelY => ⟨0x1E, 232, 16, .s16, 1, 1⟩
  | .accelZ => ⟨0x1F, 248, 16, .s16, 1, 1⟩
  -- 30_encoding.md R70
  | .battery => ⟨0x20, 304, 4, .u4, 1, 1⟩
  | .usbPresent => ⟨0x21, 308, 1, .bool, 1, 1⟩
  -- 30_encoding.md R71
  | .tpadPacketCount => ⟨0x22, 328, 8, .u8, 1, 1⟩
  -- 30_encoding.md R72
  | .tpadCounter => ⟨0x23, 336, 8, .u8, 3, 1⟩
  -- 30_encoding.md R73
  | .touchId => ⟨0x24, 344, 7, .u7, 3, 2⟩
  | .noContact => ⟨0x25, 351, 1, .bool, 3, 2⟩
  | .touchX => ⟨0x26, 352, 12, .u12, 3, 2⟩
  | .touchY => ⟨0x27, 364, 12, .u12, 3, 2⟩
  -- 30_encoding.md R74
  | .echoLStickX => ⟨0x28, 552, 16, .u16, 1, 1⟩
  | .echoLStickY => ⟨0x29, 568, 16, .u16, 1, 1⟩
  | .echoRStickX => ⟨0x2A, 584, 16, .u16, 1, 1⟩
  | .echoRStickY => ⟨0x2B, 600, 16, .u16, 1, 1⟩
  | .echoL2Analog => ⟨0x2C, 616, 16, .u16, 1, 1⟩
  | .echoR2Analog => ⟨0x2D, 632, 16, .u16, 1, 1⟩
  | .echoLTpadX => ⟨0x2E, 648, 16, .u16, 1, 1⟩
  | .echoLTpadY => ⟨0x2F, 664, 16, .u16, 1, 1⟩
  | .echoRTpadX => ⟨0x30, 680, 16, .u16, 1, 1⟩
  | .echoRTpadY => ⟨0x31, 696, 16, .u16, 1, 1⟩
  | .echoTiltX => ⟨0x32, 712, 16, .u16, 1, 1⟩
  | .echoTiltY => ⟨0x33, 728, 16, .u16, 1, 1⟩
  -- 30_encoding.md R75
  | .echoBtnDPadUp => ⟨0x34, 744, 1, .bool, 1, 1⟩
  | .echoBtnDPadRight => ⟨0x35, 745, 1, .bool, 1, 1⟩
  | .echoBtnDPadDown => ⟨0x36, 746, 1, .bool, 1, 1⟩
  | .echoBtnDPadLeft => ⟨0x37, 747, 1, .bool, 1, 1⟩
  | .echoBtnSquare => ⟨0x38, 748, 1, .bool, 1, 1⟩
  | .echoBtnCross => ⟨0x39, 749, 1, .bool, 1, 1⟩
  | .echoBtnCircle => ⟨0x3A, 750, 1, .bool, 1, 1⟩
  | .echoBtnTriangle => ⟨0x3B, 751, 1, .bool, 1, 1⟩
  | .echoBtnL1 => ⟨0x3C, 752, 1, .bool, 1, 1⟩
  | .echoBtnR1 => ⟨0x3D, 753, 1, .bool, 1, 1⟩
  | .echoBtnL2 => ⟨0x3E, 754, 1, .bool, 1, 1⟩
  | .echoBtnR2 => ⟨0x3F, 755, 1, .bool, 1, 1⟩
  | .echoBtnL3 => ⟨0x40, 756, 1, .bool, 1, 1⟩
  | .echoBtnR3 => ⟨0x41, 757, 1, .bool, 1, 1⟩
  | .echoBtnShare => ⟨0x42, 758, 1, .bool, 1, 1⟩
  | .echoBtnOptions => ⟨0x43, 759, 1, .bool, 1, 1⟩
  | .echoBtnPs => ⟨0x44, 760, 1, .bool, 1, 1⟩
  | .echoBtnTpadPress => ⟨0x45, 761, 1, .bool, 1, 1⟩

/-- The fields of format OUT in FID order (30_encoding.md R84). -/
def outFields : List OutField := [
  .ovrLed, .ovrRumbleLow, .ovrRumbleHigh, .ovrLStickX, .ovrLStickY, .ovrRStickX, .ovrRStickY,
  .ovrL2Analog, .ovrR2Analog, .ovrLTpadX, .ovrLTpadY, .ovrRTpadX, .ovrRTpadY, .ovrTiltX,
  .ovrTiltY, .ovrDPadUp, .ovrDPadRight, .ovrDPadDown, .ovrDPadLeft, .ovrSquare, .ovrCross,
  .ovrCircle, .ovrTriangle, .ovrL1, .ovrR1, .ovrL2, .ovrR2, .ovrL3, .ovrR3, .ovrShare,
  .ovrOptions, .ovrPs, .ovrTpadPress, .ledRed, .ledGreen, .ledBlue, .blinkOn, .blinkOff,
  .rumbleLow, .rumbleHigh, .pwLStickX, .pwLStickY, .pwRStickX, .pwRStickY, .pwL2Analog,
  .pwR2Analog, .pwLTpadX, .pwLTpadY, .pwRTpadX, .pwRTpadY, .pwTiltX, .pwTiltY, .stDPadUp,
  .stDPadRight, .stDPadDown, .stDPadLeft, .stSquare, .stCross, .stCircle, .stTriangle, .stL1,
  .stR1, .stL2, .stR2, .stL3, .stR3, .stShare, .stOptions, .stPs, .stTpadPress]

/-- The fields of format IN in FID order (30_encoding.md R84). -/
def inFields : List InField := [
  .reportId, .lStickX, .lStickY, .rStickX, .rStickY, .dPadUp, .dPadRight, .dPadDown, .dPadLeft,
  .square, .cross, .circle, .triangle, .l1, .r1, .l2, .r2, .l3, .r3, .share, .options, .ps,
  .tpadPress, .counter, .l2Analog, .r2Analog, .gyroX, .gyroY, .gyroZ, .accelX, .accelY, .accelZ,
  .battery, .usbPresent, .tpadPacketCount, .tpadCounter, .touchId, .noContact, .touchX, .touchY,
  .echoLStickX, .echoLStickY, .echoRStickX, .echoRStickY, .echoL2Analog, .echoR2Analog,
  .echoLTpadX, .echoLTpadY, .echoRTpadX, .echoRTpadY, .echoTiltX, .echoTiltY, .echoBtnDPadUp,
  .echoBtnDPadRight, .echoBtnDPadDown, .echoBtnDPadLeft, .echoBtnSquare, .echoBtnCross,
  .echoBtnCircle, .echoBtnTriangle, .echoBtnL1, .echoBtnR1, .echoBtnL2, .echoBtnR2, .echoBtnL3,
  .echoBtnR3, .echoBtnShare, .echoBtnOptions, .echoBtnPs, .echoBtnTpadPress]

/-- `Lookup(OUT, FID)` of 40_codec_access.md: the field with that identifier, none where no field has it (R87). -/
def outLookup (fid : BitVec 8) : Option OutField :=
  outFields.find? fun x => (outRow x).fid == fid

/-- `Lookup(IN, FID)` of 40_codec_access.md. -/
def inLookup (fid : BitVec 8) : Option InField :=
  inFields.find? fun x => (inRow x).fid == fid

end Sys2Proof.Machine

namespace Sys2Proof

/-- The operation and field an instruction stands for, row by row of the opcode table. -/
def Instr.form : Instr → Form
  | .getoOvrLed => .geto .ovrLed
  | .getoOvrRumbleLow => .geto .ovrRumbleLow
  | .getoOvrRumbleHigh => .geto .ovrRumbleHigh
  | .getoOvrLStickX => .geto .ovrLStickX
  | .getoOvrLStickY => .geto .ovrLStickY
  | .getoOvrRStickX => .geto .ovrRStickX
  | .getoOvrRStickY => .geto .ovrRStickY
  | .getoOvrL2Analog => .geto .ovrL2Analog
  | .getoOvrR2Analog => .geto .ovrR2Analog
  | .getoOvrLTpadX => .geto .ovrLTpadX
  | .getoOvrLTpadY => .geto .ovrLTpadY
  | .getoOvrRTpadX => .geto .ovrRTpadX
  | .getoOvrRTpadY => .geto .ovrRTpadY
  | .getoOvrTiltX => .geto .ovrTiltX
  | .getoOvrTiltY => .geto .ovrTiltY
  | .getoOvrDPadUp => .geto .ovrDPadUp
  | .getoOvrDPadRight => .geto .ovrDPadRight
  | .getoOvrDPadDown => .geto .ovrDPadDown
  | .getoOvrDPadLeft => .geto .ovrDPadLeft
  | .getoOvrSquare => .geto .ovrSquare
  | .getoOvrCross => .geto .ovrCross
  | .getoOvrCircle => .geto .ovrCircle
  | .getoOvrTriangle => .geto .ovrTriangle
  | .getoOvrL1 => .geto .ovrL1
  | .getoOvrR1 => .geto .ovrR1
  | .getoOvrL2 => .geto .ovrL2
  | .getoOvrR2 => .geto .ovrR2
  | .getoOvrL3 => .geto .ovrL3
  | .getoOvrR3 => .geto .ovrR3
  | .getoOvrShare => .geto .ovrShare
  | .getoOvrOptions => .geto .ovrOptions
  | .getoOvrPs => .geto .ovrPs
  | .getoOvrTpadPress => .geto .ovrTpadPress
  | .getoLedRed => .geto .ledRed
  | .getoLedGreen => .geto .ledGreen
  | .getoLedBlue => .geto .ledBlue
  | .getoBlinkOn => .geto .blinkOn
  | .getoBlinkOff => .geto .blinkOff
  | .getoRumbleLow => .geto .rumbleLow
  | .getoRumbleHigh => .geto .rumbleHigh
  | .getoPwLStickX => .geto .pwLStickX
  | .getoPwLStickY => .geto .pwLStickY
  | .getoPwRStickX => .geto .pwRStickX
  | .getoPwRStickY => .geto .pwRStickY
  | .getoPwL2Analog => .geto .pwL2Analog
  | .getoPwR2Analog => .geto .pwR2Analog
  | .getoPwLTpadX => .geto .pwLTpadX
  | .getoPwLTpadY => .geto .pwLTpadY
  | .getoPwRTpadX => .geto .pwRTpadX
  | .getoPwRTpadY => .geto .pwRTpadY
  | .getoPwTiltX => .geto .pwTiltX
  | .getoPwTiltY => .geto .pwTiltY
  | .getoStDPadUp => .geto .stDPadUp
  | .getoStDPadRight => .geto .stDPadRight
  | .getoStDPadDown => .geto .stDPadDown
  | .getoStDPadLeft => .geto .stDPadLeft
  | .getoStSquare => .geto .stSquare
  | .getoStCross => .geto .stCross
  | .getoStCircle => .geto .stCircle
  | .getoStTriangle => .geto .stTriangle
  | .getoStL1 => .geto .stL1
  | .getoStR1 => .geto .stR1
  | .getoStL2 => .geto .stL2
  | .getoStR2 => .geto .stR2
  | .getoStL3 => .geto .stL3
  | .getoStR3 => .geto .stR3
  | .getoStShare => .geto .stShare
  | .getoStOptions => .geto .stOptions
  | .getoStPs => .geto .stPs
  | .getoStTpadPress => .geto .stTpadPress
  | .setoOvrLed v => .seto .ovrLed v
  | .setoOvrRumbleLow v => .seto .ovrRumbleLow v
  | .setoOvrRumbleHigh v => .seto .ovrRumbleHigh v
  | .setoOvrLStickX v => .seto .ovrLStickX v
  | .setoOvrLStickY v => .seto .ovrLStickY v
  | .setoOvrRStickX v => .seto .ovrRStickX v
  | .setoOvrRStickY v => .seto .ovrRStickY v
  | .setoOvrL2Analog v => .seto .ovrL2Analog v
  | .setoOvrR2Analog v => .seto .ovrR2Analog v
  | .setoOvrLTpadX v => .seto .ovrLTpadX v
  | .setoOvrLTpadY v => .seto .ovrLTpadY v
  | .setoOvrRTpadX v => .seto .ovrRTpadX v
  | .setoOvrRTpadY v => .seto .ovrRTpadY v
  | .setoOvrTiltX v => .seto .ovrTiltX v
  | .setoOvrTiltY v => .seto .ovrTiltY v
  | .setoOvrDPadUp v => .seto .ovrDPadUp v
  | .setoOvrDPadRight v => .seto .ovrDPadRight v
  | .setoOvrDPadDown v => .seto .ovrDPadDown v
  | .setoOvrDPadLeft v => .seto .ovrDPadLeft v
  | .setoOvrSquare v => .seto .ovrSquare v
  | .setoOvrCross v => .seto .ovrCross v
  | .setoOvrCircle v => .seto .ovrCircle v
  | .setoOvrTriangle v => .seto .ovrTriangle v
  | .setoOvrL1 v => .seto .ovrL1 v
  | .setoOvrR1 v => .seto .ovrR1 v
  | .setoOvrL2 v => .seto .ovrL2 v
  | .setoOvrR2 v => .seto .ovrR2 v
  | .setoOvrL3 v => .seto .ovrL3 v
  | .setoOvrR3 v => .seto .ovrR3 v
  | .setoOvrShare v => .seto .ovrShare v
  | .setoOvrOptions v => .seto .ovrOptions v
  | .setoOvrPs v => .seto .ovrPs v
  | .setoOvrTpadPress v => .seto .ovrTpadPress v
  | .setoLedRed v => .seto .ledRed v
  | .setoLedGreen v => .seto .ledGreen v
  | .setoLedBlue v => .seto .ledBlue v
  | .setoBlinkOn v => .seto .blinkOn v
  | .setoBlinkOff v => .seto .blinkOff v
  | .setoRumbleLow v => .seto .rumbleLow v
  | .setoRumbleHigh v => .seto .rumbleHigh v
  | .setoPwLStickX v => .seto .pwLStickX v
  | .setoPwLStickY v => .seto .pwLStickY v
  | .setoPwRStickX v => .seto .pwRStickX v
  | .setoPwRStickY v => .seto .pwRStickY v
  | .setoPwL2Analog v => .seto .pwL2Analog v
  | .setoPwR2Analog v => .seto .pwR2Analog v
  | .setoPwLTpadX v => .seto .pwLTpadX v
  | .setoPwLTpadY v => .seto .pwLTpadY v
  | .setoPwRTpadX v => .seto .pwRTpadX v
  | .setoPwRTpadY v => .seto .pwRTpadY v
  | .setoPwTiltX v => .seto .pwTiltX v
  | .setoPwTiltY v => .seto .pwTiltY v
  | .setoStDPadUp v => .seto .stDPadUp v
  | .setoStDPadRight v => .seto .stDPadRight v
  | .setoStDPadDown v => .seto .stDPadDown v
  | .setoStDPadLeft v => .seto .stDPadLeft v
  | .setoStSquare v => .seto .stSquare v
  | .setoStCross v => .seto .stCross v
  | .setoStCircle v => .seto .stCircle v
  | .setoStTriangle v => .seto .stTriangle v
  | .setoStL1 v => .seto .stL1 v
  | .setoStR1 v => .seto .stR1 v
  | .setoStL2 v => .seto .stL2 v
  | .setoStR2 v => .seto .stR2 v
  | .setoStL3 v => .seto .stL3 v
  | .setoStR3 v => .seto .stR3 v
  | .setoStShare v => .seto .stShare v
  | .setoStOptions v => .seto .stOptions v
  | .setoStPs v => .seto .stPs v
  | .setoStTpadPress v => .seto .stTpadPress v
  | .getiReportId t f => .geti .reportId t f
  | .getiLStickX t f => .geti .lStickX t f
  | .getiLStickY t f => .geti .lStickY t f
  | .getiRStickX t f => .geti .rStickX t f
  | .getiRStickY t f => .geti .rStickY t f
  | .getiDPadUp t f => .geti .dPadUp t f
  | .getiDPadRight t f => .geti .dPadRight t f
  | .getiDPadDown t f => .geti .dPadDown t f
  | .getiDPadLeft t f => .geti .dPadLeft t f
  | .getiSquare t f => .geti .square t f
  | .getiCross t f => .geti .cross t f
  | .getiCircle t f => .geti .circle t f
  | .getiTriangle t f => .geti .triangle t f
  | .getiL1 t f => .geti .l1 t f
  | .getiR1 t f => .geti .r1 t f
  | .getiL2 t f => .geti .l2 t f
  | .getiR2 t f => .geti .r2 t f
  | .getiL3 t f => .geti .l3 t f
  | .getiR3 t f => .geti .r3 t f
  | .getiShare t f => .geti .share t f
  | .getiOptions t f => .geti .options t f
  | .getiPs t f => .geti .ps t f
  | .getiTpadPress t f => .geti .tpadPress t f
  | .getiCounter t f => .geti .counter t f
  | .getiL2Analog t f => .geti .l2Analog t f
  | .getiR2Analog t f => .geti .r2Analog t f
  | .getiGyroX t f => .geti .gyroX t f
  | .getiGyroY t f => .geti .gyroY t f
  | .getiGyroZ t f => .geti .gyroZ t f
  | .getiAccelX t f => .geti .accelX t f
  | .getiAccelY t f => .geti .accelY t f
  | .getiAccelZ t f => .geti .accelZ t f
  | .getiBattery t f => .geti .battery t f
  | .getiUsbPresent t f => .geti .usbPresent t f
  | .getiTpadPacketCount t f => .geti .tpadPacketCount t f
  | .getiTpadCounter t f => .geti .tpadCounter t f
  | .getiTouchId t f => .geti .touchId t f
  | .getiNoContact t f => .geti .noContact t f
  | .getiTouchX t f => .geti .touchX t f
  | .getiTouchY t f => .geti .touchY t f
  | .getiEchoLStickX t f => .geti .echoLStickX t f
  | .getiEchoLStickY t f => .geti .echoLStickY t f
  | .getiEchoRStickX t f => .geti .echoRStickX t f
  | .getiEchoRStickY t f => .geti .echoRStickY t f
  | .getiEchoL2Analog t f => .geti .echoL2Analog t f
  | .getiEchoR2Analog t f => .geti .echoR2Analog t f
  | .getiEchoLTpadX t f => .geti .echoLTpadX t f
  | .getiEchoLTpadY t f => .geti .echoLTpadY t f
  | .getiEchoRTpadX t f => .geti .echoRTpadX t f
  | .getiEchoRTpadY t f => .geti .echoRTpadY t f
  | .getiEchoTiltX t f => .geti .echoTiltX t f
  | .getiEchoTiltY t f => .geti .echoTiltY t f
  | .getiEchoBtnDPadUp t f => .geti .echoBtnDPadUp t f
  | .getiEchoBtnDPadRight t f => .geti .echoBtnDPadRight t f
  | .getiEchoBtnDPadDown t f => .geti .echoBtnDPadDown t f
  | .getiEchoBtnDPadLeft t f => .geti .echoBtnDPadLeft t f
  | .getiEchoBtnSquare t f => .geti .echoBtnSquare t f
  | .getiEchoBtnCross t f => .geti .echoBtnCross t f
  | .getiEchoBtnCircle t f => .geti .echoBtnCircle t f
  | .getiEchoBtnTriangle t f => .geti .echoBtnTriangle t f
  | .getiEchoBtnL1 t f => .geti .echoBtnL1 t f
  | .getiEchoBtnR1 t f => .geti .echoBtnR1 t f
  | .getiEchoBtnL2 t f => .geti .echoBtnL2 t f
  | .getiEchoBtnR2 t f => .geti .echoBtnR2 t f
  | .getiEchoBtnL3 t f => .geti .echoBtnL3 t f
  | .getiEchoBtnR3 t f => .geti .echoBtnR3 t f
  | .getiEchoBtnShare t f => .geti .echoBtnShare t f
  | .getiEchoBtnOptions t f => .geti .echoBtnOptions t f
  | .getiEchoBtnPs t f => .geti .echoBtnPs t f
  | .getiEchoBtnTpadPress t f => .geti .echoBtnTpadPress t f
  | .setiReportId t f v => .seti .reportId t f v
  | .setiLStickX t f v => .seti .lStickX t f v
  | .setiLStickY t f v => .seti .lStickY t f v
  | .setiRStickX t f v => .seti .rStickX t f v
  | .setiRStickY t f v => .seti .rStickY t f v
  | .setiDPadUp t f v => .seti .dPadUp t f v
  | .setiDPadRight t f v => .seti .dPadRight t f v
  | .setiDPadDown t f v => .seti .dPadDown t f v
  | .setiDPadLeft t f v => .seti .dPadLeft t f v
  | .setiSquare t f v => .seti .square t f v
  | .setiCross t f v => .seti .cross t f v
  | .setiCircle t f v => .seti .circle t f v
  | .setiTriangle t f v => .seti .triangle t f v
  | .setiL1 t f v => .seti .l1 t f v
  | .setiR1 t f v => .seti .r1 t f v
  | .setiL2 t f v => .seti .l2 t f v
  | .setiR2 t f v => .seti .r2 t f v
  | .setiL3 t f v => .seti .l3 t f v
  | .setiR3 t f v => .seti .r3 t f v
  | .setiShare t f v => .seti .share t f v
  | .setiOptions t f v => .seti .options t f v
  | .setiPs t f v => .seti .ps t f v
  | .setiTpadPress t f v => .seti .tpadPress t f v
  | .setiCounter t f v => .seti .counter t f v
  | .setiL2Analog t f v => .seti .l2Analog t f v
  | .setiR2Analog t f v => .seti .r2Analog t f v
  | .setiGyroX t f v => .seti .gyroX t f v
  | .setiGyroY t f v => .seti .gyroY t f v
  | .setiGyroZ t f v => .seti .gyroZ t f v
  | .setiAccelX t f v => .seti .accelX t f v
  | .setiAccelY t f v => .seti .accelY t f v
  | .setiAccelZ t f v => .seti .accelZ t f v
  | .setiBattery t f v => .seti .battery t f v
  | .setiUsbPresent t f v => .seti .usbPresent t f v
  | .setiTpadPacketCount t f v => .seti .tpadPacketCount t f v
  | .setiTpadCounter t f v => .seti .tpadCounter t f v
  | .setiTouchId t f v => .seti .touchId t f v
  | .setiNoContact t f v => .seti .noContact t f v
  | .setiTouchX t f v => .seti .touchX t f v
  | .setiTouchY t f v => .seti .touchY t f v
  | .setiEchoLStickX t f v => .seti .echoLStickX t f v
  | .setiEchoLStickY t f v => .seti .echoLStickY t f v
  | .setiEchoRStickX t f v => .seti .echoRStickX t f v
  | .setiEchoRStickY t f v => .seti .echoRStickY t f v
  | .setiEchoL2Analog t f v => .seti .echoL2Analog t f v
  | .setiEchoR2Analog t f v => .seti .echoR2Analog t f v
  | .setiEchoLTpadX t f v => .seti .echoLTpadX t f v
  | .setiEchoLTpadY t f v => .seti .echoLTpadY t f v
  | .setiEchoRTpadX t f v => .seti .echoRTpadX t f v
  | .setiEchoRTpadY t f v => .seti .echoRTpadY t f v
  | .setiEchoTiltX t f v => .seti .echoTiltX t f v
  | .setiEchoTiltY t f v => .seti .echoTiltY t f v
  | .setiEchoBtnDPadUp t f v => .seti .echoBtnDPadUp t f v
  | .setiEchoBtnDPadRight t f v => .seti .echoBtnDPadRight t f v
  | .setiEchoBtnDPadDown t f v => .seti .echoBtnDPadDown t f v
  | .setiEchoBtnDPadLeft t f v => .seti .echoBtnDPadLeft t f v
  | .setiEchoBtnSquare t f v => .seti .echoBtnSquare t f v
  | .setiEchoBtnCross t f v => .seti .echoBtnCross t f v
  | .setiEchoBtnCircle t f v => .seti .echoBtnCircle t f v
  | .setiEchoBtnTriangle t f v => .seti .echoBtnTriangle t f v
  | .setiEchoBtnL1 t f v => .seti .echoBtnL1 t f v
  | .setiEchoBtnR1 t f v => .seti .echoBtnR1 t f v
  | .setiEchoBtnL2 t f v => .seti .echoBtnL2 t f v
  | .setiEchoBtnR2 t f v => .seti .echoBtnR2 t f v
  | .setiEchoBtnL3 t f v => .seti .echoBtnL3 t f v
  | .setiEchoBtnR3 t f v => .seti .echoBtnR3 t f v
  | .setiEchoBtnShare t f v => .seti .echoBtnShare t f v
  | .setiEchoBtnOptions t f v => .seti .echoBtnOptions t f v
  | .setiEchoBtnPs t f v => .seti .echoBtnPs t f v
  | .setiEchoBtnTpadPress t f v => .seti .echoBtnTpadPress t f v
  | .rdo => .rdo
  | .wro b => .wro b
  | .rdi => .rdi
  | .wri b => .wri b
  | .setind r g b on off => .setind r g b on off
  | .exec => .exec
  | .rst => .rst
  | .reservedOp0 low => .reserved .op0 low
  | .reservedOpC low => .reserved .opC low
  | .reservedOpD low => .reserved .opD low
  | .reservedOpE low => .reserved .opE low
  | .reservedOpF low => .reserved .opF low

/-- The GETO instruction of a field. -/
def Instr.ofGeto (x : OutField) : Instr :=
  match x with
  | .ovrLed => .getoOvrLed
  | .ovrRumbleLow => .getoOvrRumbleLow
  | .ovrRumbleHigh => .getoOvrRumbleHigh
  | .ovrLStickX => .getoOvrLStickX
  | .ovrLStickY => .getoOvrLStickY
  | .ovrRStickX => .getoOvrRStickX
  | .ovrRStickY => .getoOvrRStickY
  | .ovrL2Analog => .getoOvrL2Analog
  | .ovrR2Analog => .getoOvrR2Analog
  | .ovrLTpadX => .getoOvrLTpadX
  | .ovrLTpadY => .getoOvrLTpadY
  | .ovrRTpadX => .getoOvrRTpadX
  | .ovrRTpadY => .getoOvrRTpadY
  | .ovrTiltX => .getoOvrTiltX
  | .ovrTiltY => .getoOvrTiltY
  | .ovrDPadUp => .getoOvrDPadUp
  | .ovrDPadRight => .getoOvrDPadRight
  | .ovrDPadDown => .getoOvrDPadDown
  | .ovrDPadLeft => .getoOvrDPadLeft
  | .ovrSquare => .getoOvrSquare
  | .ovrCross => .getoOvrCross
  | .ovrCircle => .getoOvrCircle
  | .ovrTriangle => .getoOvrTriangle
  | .ovrL1 => .getoOvrL1
  | .ovrR1 => .getoOvrR1
  | .ovrL2 => .getoOvrL2
  | .ovrR2 => .getoOvrR2
  | .ovrL3 => .getoOvrL3
  | .ovrR3 => .getoOvrR3
  | .ovrShare => .getoOvrShare
  | .ovrOptions => .getoOvrOptions
  | .ovrPs => .getoOvrPs
  | .ovrTpadPress => .getoOvrTpadPress
  | .ledRed => .getoLedRed
  | .ledGreen => .getoLedGreen
  | .ledBlue => .getoLedBlue
  | .blinkOn => .getoBlinkOn
  | .blinkOff => .getoBlinkOff
  | .rumbleLow => .getoRumbleLow
  | .rumbleHigh => .getoRumbleHigh
  | .pwLStickX => .getoPwLStickX
  | .pwLStickY => .getoPwLStickY
  | .pwRStickX => .getoPwRStickX
  | .pwRStickY => .getoPwRStickY
  | .pwL2Analog => .getoPwL2Analog
  | .pwR2Analog => .getoPwR2Analog
  | .pwLTpadX => .getoPwLTpadX
  | .pwLTpadY => .getoPwLTpadY
  | .pwRTpadX => .getoPwRTpadX
  | .pwRTpadY => .getoPwRTpadY
  | .pwTiltX => .getoPwTiltX
  | .pwTiltY => .getoPwTiltY
  | .stDPadUp => .getoStDPadUp
  | .stDPadRight => .getoStDPadRight
  | .stDPadDown => .getoStDPadDown
  | .stDPadLeft => .getoStDPadLeft
  | .stSquare => .getoStSquare
  | .stCross => .getoStCross
  | .stCircle => .getoStCircle
  | .stTriangle => .getoStTriangle
  | .stL1 => .getoStL1
  | .stR1 => .getoStR1
  | .stL2 => .getoStL2
  | .stR2 => .getoStR2
  | .stL3 => .getoStL3
  | .stR3 => .getoStR3
  | .stShare => .getoStShare
  | .stOptions => .getoStOptions
  | .stPs => .getoStPs
  | .stTpadPress => .getoStTpadPress

/-- The SETO instruction of a field. -/
def Instr.ofSeto (x : OutField) (v : Scalar) : Instr :=
  match x with
  | .ovrLed => .setoOvrLed v
  | .ovrRumbleLow => .setoOvrRumbleLow v
  | .ovrRumbleHigh => .setoOvrRumbleHigh v
  | .ovrLStickX => .setoOvrLStickX v
  | .ovrLStickY => .setoOvrLStickY v
  | .ovrRStickX => .setoOvrRStickX v
  | .ovrRStickY => .setoOvrRStickY v
  | .ovrL2Analog => .setoOvrL2Analog v
  | .ovrR2Analog => .setoOvrR2Analog v
  | .ovrLTpadX => .setoOvrLTpadX v
  | .ovrLTpadY => .setoOvrLTpadY v
  | .ovrRTpadX => .setoOvrRTpadX v
  | .ovrRTpadY => .setoOvrRTpadY v
  | .ovrTiltX => .setoOvrTiltX v
  | .ovrTiltY => .setoOvrTiltY v
  | .ovrDPadUp => .setoOvrDPadUp v
  | .ovrDPadRight => .setoOvrDPadRight v
  | .ovrDPadDown => .setoOvrDPadDown v
  | .ovrDPadLeft => .setoOvrDPadLeft v
  | .ovrSquare => .setoOvrSquare v
  | .ovrCross => .setoOvrCross v
  | .ovrCircle => .setoOvrCircle v
  | .ovrTriangle => .setoOvrTriangle v
  | .ovrL1 => .setoOvrL1 v
  | .ovrR1 => .setoOvrR1 v
  | .ovrL2 => .setoOvrL2 v
  | .ovrR2 => .setoOvrR2 v
  | .ovrL3 => .setoOvrL3 v
  | .ovrR3 => .setoOvrR3 v
  | .ovrShare => .setoOvrShare v
  | .ovrOptions => .setoOvrOptions v
  | .ovrPs => .setoOvrPs v
  | .ovrTpadPress => .setoOvrTpadPress v
  | .ledRed => .setoLedRed v
  | .ledGreen => .setoLedGreen v
  | .ledBlue => .setoLedBlue v
  | .blinkOn => .setoBlinkOn v
  | .blinkOff => .setoBlinkOff v
  | .rumbleLow => .setoRumbleLow v
  | .rumbleHigh => .setoRumbleHigh v
  | .pwLStickX => .setoPwLStickX v
  | .pwLStickY => .setoPwLStickY v
  | .pwRStickX => .setoPwRStickX v
  | .pwRStickY => .setoPwRStickY v
  | .pwL2Analog => .setoPwL2Analog v
  | .pwR2Analog => .setoPwR2Analog v
  | .pwLTpadX => .setoPwLTpadX v
  | .pwLTpadY => .setoPwLTpadY v
  | .pwRTpadX => .setoPwRTpadX v
  | .pwRTpadY => .setoPwRTpadY v
  | .pwTiltX => .setoPwTiltX v
  | .pwTiltY => .setoPwTiltY v
  | .stDPadUp => .setoStDPadUp v
  | .stDPadRight => .setoStDPadRight v
  | .stDPadDown => .setoStDPadDown v
  | .stDPadLeft => .setoStDPadLeft v
  | .stSquare => .setoStSquare v
  | .stCross => .setoStCross v
  | .stCircle => .setoStCircle v
  | .stTriangle => .setoStTriangle v
  | .stL1 => .setoStL1 v
  | .stR1 => .setoStR1 v
  | .stL2 => .setoStL2 v
  | .stR2 => .setoStR2 v
  | .stL3 => .setoStL3 v
  | .stR3 => .setoStR3 v
  | .stShare => .setoStShare v
  | .stOptions => .setoStOptions v
  | .stPs => .setoStPs v
  | .stTpadPress => .setoStTpadPress v

/-- The GETI instruction of a field. -/
def Instr.ofGeti (x : InField) (t f : BitVec 2) : Instr :=
  match x with
  | .reportId => .getiReportId t f
  | .lStickX => .getiLStickX t f
  | .lStickY => .getiLStickY t f
  | .rStickX => .getiRStickX t f
  | .rStickY => .getiRStickY t f
  | .dPadUp => .getiDPadUp t f
  | .dPadRight => .getiDPadRight t f
  | .dPadDown => .getiDPadDown t f
  | .dPadLeft => .getiDPadLeft t f
  | .square => .getiSquare t f
  | .cross => .getiCross t f
  | .circle => .getiCircle t f
  | .triangle => .getiTriangle t f
  | .l1 => .getiL1 t f
  | .r1 => .getiR1 t f
  | .l2 => .getiL2 t f
  | .r2 => .getiR2 t f
  | .l3 => .getiL3 t f
  | .r3 => .getiR3 t f
  | .share => .getiShare t f
  | .options => .getiOptions t f
  | .ps => .getiPs t f
  | .tpadPress => .getiTpadPress t f
  | .counter => .getiCounter t f
  | .l2Analog => .getiL2Analog t f
  | .r2Analog => .getiR2Analog t f
  | .gyroX => .getiGyroX t f
  | .gyroY => .getiGyroY t f
  | .gyroZ => .getiGyroZ t f
  | .accelX => .getiAccelX t f
  | .accelY => .getiAccelY t f
  | .accelZ => .getiAccelZ t f
  | .battery => .getiBattery t f
  | .usbPresent => .getiUsbPresent t f
  | .tpadPacketCount => .getiTpadPacketCount t f
  | .tpadCounter => .getiTpadCounter t f
  | .touchId => .getiTouchId t f
  | .noContact => .getiNoContact t f
  | .touchX => .getiTouchX t f
  | .touchY => .getiTouchY t f
  | .echoLStickX => .getiEchoLStickX t f
  | .echoLStickY => .getiEchoLStickY t f
  | .echoRStickX => .getiEchoRStickX t f
  | .echoRStickY => .getiEchoRStickY t f
  | .echoL2Analog => .getiEchoL2Analog t f
  | .echoR2Analog => .getiEchoR2Analog t f
  | .echoLTpadX => .getiEchoLTpadX t f
  | .echoLTpadY => .getiEchoLTpadY t f
  | .echoRTpadX => .getiEchoRTpadX t f
  | .echoRTpadY => .getiEchoRTpadY t f
  | .echoTiltX => .getiEchoTiltX t f
  | .echoTiltY => .getiEchoTiltY t f
  | .echoBtnDPadUp => .getiEchoBtnDPadUp t f
  | .echoBtnDPadRight => .getiEchoBtnDPadRight t f
  | .echoBtnDPadDown => .getiEchoBtnDPadDown t f
  | .echoBtnDPadLeft => .getiEchoBtnDPadLeft t f
  | .echoBtnSquare => .getiEchoBtnSquare t f
  | .echoBtnCross => .getiEchoBtnCross t f
  | .echoBtnCircle => .getiEchoBtnCircle t f
  | .echoBtnTriangle => .getiEchoBtnTriangle t f
  | .echoBtnL1 => .getiEchoBtnL1 t f
  | .echoBtnR1 => .getiEchoBtnR1 t f
  | .echoBtnL2 => .getiEchoBtnL2 t f
  | .echoBtnR2 => .getiEchoBtnR2 t f
  | .echoBtnL3 => .getiEchoBtnL3 t f
  | .echoBtnR3 => .getiEchoBtnR3 t f
  | .echoBtnShare => .getiEchoBtnShare t f
  | .echoBtnOptions => .getiEchoBtnOptions t f
  | .echoBtnPs => .getiEchoBtnPs t f
  | .echoBtnTpadPress => .getiEchoBtnTpadPress t f

/-- The SETI instruction of a field. -/
def Instr.ofSeti (x : InField) (t f : BitVec 2) (v : Scalar) : Instr :=
  match x with
  | .reportId => .setiReportId t f v
  | .lStickX => .setiLStickX t f v
  | .lStickY => .setiLStickY t f v
  | .rStickX => .setiRStickX t f v
  | .rStickY => .setiRStickY t f v
  | .dPadUp => .setiDPadUp t f v
  | .dPadRight => .setiDPadRight t f v
  | .dPadDown => .setiDPadDown t f v
  | .dPadLeft => .setiDPadLeft t f v
  | .square => .setiSquare t f v
  | .cross => .setiCross t f v
  | .circle => .setiCircle t f v
  | .triangle => .setiTriangle t f v
  | .l1 => .setiL1 t f v
  | .r1 => .setiR1 t f v
  | .l2 => .setiL2 t f v
  | .r2 => .setiR2 t f v
  | .l3 => .setiL3 t f v
  | .r3 => .setiR3 t f v
  | .share => .setiShare t f v
  | .options => .setiOptions t f v
  | .ps => .setiPs t f v
  | .tpadPress => .setiTpadPress t f v
  | .counter => .setiCounter t f v
  | .l2Analog => .setiL2Analog t f v
  | .r2Analog => .setiR2Analog t f v
  | .gyroX => .setiGyroX t f v
  | .gyroY => .setiGyroY t f v
  | .gyroZ => .setiGyroZ t f v
  | .accelX => .setiAccelX t f v
  | .accelY => .setiAccelY t f v
  | .accelZ => .setiAccelZ t f v
  | .battery => .setiBattery t f v
  | .usbPresent => .setiUsbPresent t f v
  | .tpadPacketCount => .setiTpadPacketCount t f v
  | .tpadCounter => .setiTpadCounter t f v
  | .touchId => .setiTouchId t f v
  | .noContact => .setiNoContact t f v
  | .touchX => .setiTouchX t f v
  | .touchY => .setiTouchY t f v
  | .echoLStickX => .setiEchoLStickX t f v
  | .echoLStickY => .setiEchoLStickY t f v
  | .echoRStickX => .setiEchoRStickX t f v
  | .echoRStickY => .setiEchoRStickY t f v
  | .echoL2Analog => .setiEchoL2Analog t f v
  | .echoR2Analog => .setiEchoR2Analog t f v
  | .echoLTpadX => .setiEchoLTpadX t f v
  | .echoLTpadY => .setiEchoLTpadY t f v
  | .echoRTpadX => .setiEchoRTpadX t f v
  | .echoRTpadY => .setiEchoRTpadY t f v
  | .echoTiltX => .setiEchoTiltX t f v
  | .echoTiltY => .setiEchoTiltY t f v
  | .echoBtnDPadUp => .setiEchoBtnDPadUp t f v
  | .echoBtnDPadRight => .setiEchoBtnDPadRight t f v
  | .echoBtnDPadDown => .setiEchoBtnDPadDown t f v
  | .echoBtnDPadLeft => .setiEchoBtnDPadLeft t f v
  | .echoBtnSquare => .setiEchoBtnSquare t f v
  | .echoBtnCross => .setiEchoBtnCross t f v
  | .echoBtnCircle => .setiEchoBtnCircle t f v
  | .echoBtnTriangle => .setiEchoBtnTriangle t f v
  | .echoBtnL1 => .setiEchoBtnL1 t f v
  | .echoBtnR1 => .setiEchoBtnR1 t f v
  | .echoBtnL2 => .setiEchoBtnL2 t f v
  | .echoBtnR2 => .setiEchoBtnR2 t f v
  | .echoBtnL3 => .setiEchoBtnL3 t f v
  | .echoBtnR3 => .setiEchoBtnR3 t f v
  | .echoBtnShare => .setiEchoBtnShare t f v
  | .echoBtnOptions => .setiEchoBtnOptions t f v
  | .echoBtnPs => .setiEchoBtnPs t f v
  | .echoBtnTpadPress => .setiEchoBtnTpadPress t f v

/-- The instruction of a form: the inverse of `Instr.form`. -/
def Instr.ofForm : Form → Instr
  | .geto x => Instr.ofGeto x
  | .seto x v => Instr.ofSeto x v
  | .geti x t f => Instr.ofGeti x t f
  | .seti x t f v => Instr.ofSeti x t f v
  | .rdo => .rdo
  | .wro b => .wro b
  | .rdi => .rdi
  | .wri b => .wri b
  | .setind r g b on off => .setind r g b on off
  | .exec => .exec
  | .rst => .rst
  | .reserved .op0 low => .reservedOp0 low
  | .reserved .opC low => .reservedOpC low
  | .reserved .opD low => .reservedOpD low
  | .reserved .opE low => .reservedOpE low
  | .reserved .opF low => .reservedOpF low

end Sys2Proof
end

