-- ==== Sys2Proof/Machine/Packet.lean ====
section
/-! DEFINITION. Access to packet registers by byte and by bit, and the byte-order helpers (00_scope.md R7, R8;
20_memory.md R30, R31, R34, R35). Bit address `a` is bit `a mod 8` of byte `a div 8`. -/

namespace Sys2Proof.Machine

/-- `P[i]`. Every address the model reads is inside the packet; one outside it reads as 0 so that the function is
total. -/
def byteAt {n : Nat} (p : Packet n) (i : Nat) : Byte := p[i]?.getD 0

/-- `P[i] <- b`; outside the packet nothing is written. -/
def setByte {n : Nat} (p : Packet n) (i : Nat) (b : Byte) : Packet n := p.setIfInBounds i b

/-- The bit at bit address `a` (20_memory.md R31). -/
def bitAt {n : Nat} (p : Packet n) (a : Nat) : Bool := (byteAt p (a / 8)).getLsbD (a % 8)

/-- Bit `k` of a byte becomes `v`, the other seven keep their value. -/
def putBit (b : Byte) (k : Nat) (v : Bool) : Byte :=
  (b &&& ~~~(1#8 <<< k)) ||| (if v then 1#8 <<< k else 0#8)

/-- The bit at bit address `a` becomes `v`: a read-modify-write of one byte. -/
def setBit {n : Nat} (p : Packet n) (a : Nat) (v : Bool) : Packet n :=
  setByte p (a / 8) (putBit (byteAt p (a / 8)) (a % 8) v)

/-- `zext_16(BitRead(P, a, w))` for `w ≤ 16` (20_memory.md R34, 30_encoding.md R76): bit `k < w` of the result is the
bit at address `a + k`. -/
def bitRead {n : Nat} (p : Packet n) (a : Nat) : Nat → Scalar
  | 0 => 0#16
  | w + 1 => bitRead p a w ||| (if bitAt p (a + w) then 1#16 <<< w else 0#16)

/-- `BitWrite(P, a, w, v)` for `w ≤ 16` (20_memory.md R35): for `k < w` the bit at address `a + k` becomes `v[k]`. -/
def bitWrite {n : Nat} (p : Packet n) (a : Nat) : Nat → Scalar → Packet n
  | 0, _ => p
  | w + 1, v => setBit (bitWrite p a w v) (a + w) (v.getLsbD w)

/-- `MemRead(P, i, k)`: `k` bytes from byte `i`, assembled little-endian (00_scope.md R8). -/
def memRead {n : Nat} (p : Packet n) (i : Nat) : Nat → Nat
  | 0 => 0
  | k + 1 => memRead p i k + (byteAt p (i + k)).toNat * 2 ^ (8 * k)

/-- `MemWrite(P, i, k, v)`: for `j < k`, `P[i+j] <- v[8j+7:8j]` (00_scope.md R8). -/
def memWrite {n : Nat} (p : Packet n) (i : Nat) : Nat → Nat → Packet n
  | 0, _ => p
  | k + 1, v => setByte (memWrite p i k v) (i + k) (BitVec.ofNat 8 (v / 2 ^ (8 * k)))

/-- A packet with every byte 0. -/
def zeroPacket {n : Nat} : Packet n := Vector.replicate n 0#8

/-- The bytes of a packet, byte 0 first: `rsp_data` of a raw view (40_codec_access.md R94, R96). -/
def packetBytes {n : Nat} (p : Packet n) : List Byte := p.toList

/-- The packet whose byte `i` is byte `i` of a payload (40_codec_access.md R95, R97). -/
def packetOfBytes (n : Nat) (l : List Byte) : Packet n := Vector.ofFn fun i => l.getD i.val 0#8

/-- The two bytes of a 16-bit port value, bits 7:0 first (30_encoding.md R82, R83). -/
def scalarBytes (v : Scalar) : List Byte := [v.extractLsb' 0 8, v.extractLsb' 8 8]

/-- The 16-bit port value of a payload of two bytes (30_encoding.md R82). -/
def scalarOfBytes (l : List Byte) : Scalar := l.getD 1 0#8 ++ l.getD 0 0#8

end Sys2Proof.Machine
end

