-- ==== Sys2Proof/Machine/Operands.lean ====
section
/-! DEFINITION. The operand forms: the address of a field instance, the index check, the value check, and the typed
value of a field (30_encoding.md R76 to R79). -/

namespace Sys2Proof.Machine

/-- `a(t, f) = a0 + 72*t + 32*f` (30_encoding.md R78). -/
def fieldAddr (r : FieldRow) (t f : BitVec 2) : Nat := r.a0 + 72 * t.toNat + 32 * f.toNat

/-- The indices are inside the field's extents (30_encoding.md R78); otherwise the access raises IndexRange. -/
def indexOk (r : FieldRow) (t f : BitVec 2) : Bool := decide (t.toNat < r.nT) && decide (f.toNat < r.nF)

/-- The value fits the field (30_encoding.md R79); otherwise a set raises ValueRange. -/
def valueFits (r : FieldRow) (v : Scalar) : Bool := decide (v.toNat < 2 ^ r.width)

/-- `signed_16(v)` (00_scope.md R8): the integer `v` if `v < 2^15`, else `v - 2^16`. -/
def signed16 (v : Scalar) : Int := if v.toNat < 2 ^ 15 then v.toNat else (v.toNat : Int) - 2 ^ 16

/-- A typed field value (30_encoding.md R76, R77). -/
inductive FieldValue where
  | bool (b : Bool)
  | unsigned (n : Nat)
  | signed (z : Int)
  deriving DecidableEq, Repr

/-- The typed value of a field's raw bits (30_encoding.md R76, R77). -/
def typedValue : FieldType → Scalar → FieldValue
  | .bool, v => .bool (v.getLsbD 0)
  | .s16, v => .signed (signed16 v)
  | _, v => .unsigned v.toNat

end Sys2Proof.Machine
end

