-- ==== Sys2Proof/WellFormed.lean ====
section
/-! DEFINITION. Which instructions are well formed: those the operand checks of 60_exceptions.md R144 let through. -/

namespace Sys2Proof

open Machine

/-- A form passes the checks (3), (5) and (6) of 60_exceptions.md R144: no reserved operation code (R86), indices inside
the field's extents (R78), on a set a value that fits the field (R79). -/
def Form.wellFormed : Form → Bool
  | .seto x v => valueFits (outRow x) v
  | .geti x t f => indexOk (inRow x) t f
  | .seti x t f v => indexOk (inRow x) t f && valueFits (inRow x) v
  | .reserved _ _ => false
  | .geto _ | .rdo | .wro _ | .rdi | .wri _ | .setind _ _ _ _ _ | .exec | .rst => true

/-- The instruction is well formed. -/
def Instr.wellFormed (i : Instr) : Bool := i.form.wellFormed

end Sys2Proof
end

