-- ==== Sys2Proof/Decode.lean ====
section
/-! DEFINITION. The decoder, total on every request, rejecting by name; after it the encoder, written from the same
tables (30_encoding.md R80 to R88). -/

namespace Sys2Proof

open Machine

/-- Why a request is no instruction. Each reason is a fault cause of 60_exceptions.md R140, taken by the step. -/
inductive DecodeError where
  /-- Non-zero bits 11:0 of an operation without a field (R88), or a payload of the wrong length (R95, R97, R144). -/
  | illegalRequest
  /-- A field identifier in 0x46..0xFF (R87). -/
  | unknownField
  /-- A non-zero `T` or `F` on a field of format OUT, none of which is indexed (R78, R81). -/
  | indexRange
  deriving DecidableEq, Repr

/-- `OP`, bits 15:12 of the request word (30_encoding.md R81). -/
def opOf (w : ReqWord) : BitVec 4 := w.extractLsb' 12 4

/-- `F`, bits 11:10 (30_encoding.md R81). -/
def fingerOf (w : ReqWord) : BitVec 2 := w.extractLsb' 10 2

/-- `T`, bits 9:8 (30_encoding.md R81). -/
def subRecordOf (w : ReqWord) : BitVec 2 := w.extractLsb' 8 2

/-- `FID`, bits 7:0 (30_encoding.md R81). -/
def fidOf (w : ReqWord) : BitVec 8 := w.extractLsb' 0 8

/-- Bits 11:0 of the request word. -/
def lowOf (w : ReqWord) : BitVec 12 := w.extractLsb' 0 12

/-- The payload length in bytes, determined by `OP` alone (30_encoding.md R82). -/
def payloadLength (op : BitVec 4) : Nat :=
  match op.toNat with
  | 2 | 4 => 2
  | 6 => Config.outLen
  | 8 => Config.inLen
  | 9 => 5
  | _ => 0

/-- The width in bytes of `rsp_data`, determined by `OP` alone (30_encoding.md R83). -/
def responseLength (op : BitVec 4) : Nat :=
  match op.toNat with
  | 1 | 3 => 2
  | 5 => Config.outLen
  | 7 => Config.inLen
  | _ => 0

/-- An operation with no field: its bits 11:0 must be zero (30_encoding.md R88). -/
def plainForm (w : ReqWord) (x : Form) : Except DecodeError Form :=
  if lowOf w = 0#12 then .ok x else .error .illegalRequest

/-- An operation on a field of format OUT: the field its FID names, if any (30_encoding.md R87), and then `T` and `F` must
be 0 (R78, R81); the order is that of 60_exceptions.md R144. -/
def outForm (w : ReqWord) (x : OutField → Form) : Except DecodeError Form :=
  match outLookup (fidOf w) with
  | some field => if subRecordOf w = 0#2 ∧ fingerOf w = 0#2 then .ok (x field) else .error .indexRange
  | none => .error .unknownField

/-- An operation on a field of format IN: the field its FID names, if any (30_encoding.md R87). -/
def inForm (w : ReqWord) (x : InField → Form) : Except DecodeError Form :=
  match inLookup (fidOf w) with
  | some field => .ok (x field)
  | none => .error .unknownField

/-- The form a request stands for. The payload's length is checked first: a wrong one is IllegalRequest before any check
of the FID (60_exceptions.md R144). -/
def decodeForm (r : Request) : Except DecodeError Form :=
  let w := r.word
  let t := subRecordOf w
  let f := fingerOf w
  let v := scalarOfBytes r.payload
  let b := fun i => r.payload.getD i 0#8
  if r.payload.length ≠ payloadLength (opOf w) then .error .illegalRequest
  else match (opOf w).toNat with
    | 0x0 => .ok (.reserved .op0 (lowOf w))
    | 0x1 => outForm w .geto
    | 0x2 => outForm w fun x => .seto x v
    | 0x3 => inForm w fun x => .geti x t f
    | 0x4 => inForm w fun x => .seti x t f v
    | 0x5 => plainForm w .rdo
    | 0x6 => plainForm w (.wro (packetOfBytes Config.outLen r.payload))
    | 0x7 => plainForm w .rdi
    | 0x8 => plainForm w (.wri (packetOfBytes Config.inLen r.payload))
    | 0x9 => plainForm w (.setind (b 0) (b 1) (b 2) (b 3) (b 4))
    | 0xA => plainForm w .exec
    | 0xB => plainForm w .rst
    | 0xC => .ok (.reserved .opC (lowOf w))
    | 0xD => .ok (.reserved .opD (lowOf w))
    | 0xE => .ok (.reserved .opE (lowOf w))
    | _ => .ok (.reserved .opF (lowOf w))

/-- The decoder: the instruction a request stands for, or the name of the fault. -/
def decode (r : Request) : Except DecodeError Instr :=
  match decodeForm r with
  | .ok x => .ok (Instr.ofForm x)
  | .error e => .error e

/-! The encoder. -/

/-- A request word from its four fields (30_encoding.md R81). -/
def wordOf (op : BitVec 4) (f t : BitVec 2) (fid : BitVec 8) : ReqWord := op ++ f ++ t ++ fid

/-- The operation code of a reserved row (30_encoding.md R86). -/
def reservedCode : ReservedOp → BitVec 4
  | .op0 => 0x0
  | .opC => 0xC
  | .opD => 0xD
  | .opE => 0xE
  | .opF => 0xF

/-- The request of a form (30_encoding.md R80 to R82). -/
def encodeForm : Form → Request
  | .geto x => ⟨wordOf 0x1 0 0 (outRow x).fid, []⟩
  | .seto x v => ⟨wordOf 0x2 0 0 (outRow x).fid, scalarBytes v⟩
  | .geti x t f => ⟨wordOf 0x3 f t (inRow x).fid, []⟩
  | .seti x t f v => ⟨wordOf 0x4 f t (inRow x).fid, scalarBytes v⟩
  | .rdo => ⟨0x5000, []⟩
  | .wro b => ⟨0x6000, packetBytes b⟩
  | .rdi => ⟨0x7000, []⟩
  | .wri b => ⟨0x8000, packetBytes b⟩
  | .setind r g b on off => ⟨0x9000, [r, g, b, on, off]⟩
  | .exec => ⟨0xA000, []⟩
  | .rst => ⟨0xB000, []⟩
  | .reserved o low => ⟨reservedCode o ++ low, []⟩

/-- The encoder: the request of an instruction. -/
def encode (i : Instr) : Request := encodeForm i.form

/-! The table's numbering: bit 0 is bit 0 of the request word, the payload counts on from bit 16. -/

/-- The bytes of `w` from bit `lo` on, `k` of them. -/
def bytesFrom (w lo : Nat) : Nat → List Byte
  | 0 => []
  | k + 1 => BitVec.ofNat 8 (w >>> lo) :: bytesFrom w (lo + 8) k

/-- The request whose bits are `w`: the word in bits 15:0, then the payload its operation code asks for. Bits from
`nbits` up are 0. -/
def requestOfBits (nbits w : Nat) : Request :=
  let bits := w % 2 ^ nbits
  let word := BitVec.ofNat 16 bits
  ⟨word, bytesFrom bits 16 (payloadLength (opOf word))⟩

/-- The instruction the decoder reads from the bits `w`. -/
def decodeTableWord (nbits w : Nat) : Option Instr :=
  match decode (requestOfBits nbits w) with
  | .ok i => some i
  | .error _ => none

end Sys2Proof
end

