-- ==== Sys2Proof/Machine/State.lean ====
section
/-! DEFINITION. The state of the block (10_state.md), the reasons a step can stop, and the state after reset
(70_reset_and_hazards.md R161). -/

namespace Sys2Proof.Machine

/-- `PHASE`, the sequencer's phase (10_state.md R14). -/
inductive Phase where
  | idle | xfer | desel | decode
  deriving DecidableEq, Repr

/-- An event of the bus trace (00_scope.md R8, 10_state.md R22). -/
inductive BusEvent where
  | selAssert
  | xfer (tx rx : Byte)
  | selDeassert
  deriving DecidableEq, Repr

/-- A response on the host port: `rsp_err`, and `rsp_data` as bytes, byte `i` being bits `8i+7:8i`
(10_state.md R24, 30_encoding.md R83). -/
structure Response where
  err : Bool
  data : List Byte
  deriving DecidableEq, Repr

/-- The block with the model's inputs. The first eight fields are the spec's registers. -/
structure State where
  /-- `OUTPKT`, the Output Packet register (10_state.md R10). -/
  outpkt : OutPacket
  /-- `INPKT`, the Input Packet register (10_state.md R11). -/
  inpkt : InPacket
  /-- `PHASE` (10_state.md R14). -/
  phase : Phase
  /-- `IDX`, 7 bits (10_state.md R14, R15). -/
  idx : BitVec 7
  /-- `BUSY` (10_state.md R16). -/
  busy : Bool
  /-- `FAULT`, sticky (10_state.md R17). -/
  fault : Bool
  /-- `FCODE`, 3 bits (10_state.md R17, 60_exceptions.md R140). -/
  fcode : BitVec 3
  /-- `SEL`, the logical state of the select line (10_state.md R18). -/
  sel : Bool
  /-- The response outputs: `none` is `rsp_valid = 0` (10_state.md R24). Log entry 7. -/
  rsp : Option Response
  /-- The bus trace, oldest event first (10_state.md R22). No operation reads it. Log entry 14. -/
  trace : List BusEvent
  /-- MODEL'S INPUT: what the host presents in the steps to come, one entry a step, `none` for `req_valid = 0`; past the
  end of the list nothing is presented. Log entry 2. -/
  host : List (Option Request)
  /-- MODEL'S INPUT: the bytes the transport will answer, one for each exchange (60_exceptions.md R152). Log entry 3. -/
  board : List Byte
  /-- MODEL'S OWN: how many free bytes have been drawn. Log entry 6. -/
  freeCount : Nat
  deriving DecidableEq, Repr

/-- Why the model stops. None of these is a fault of the block: the block's faults are recorded in `FAULT` and `FCODE`
and are next states. -/
inductive Fault where
  /-- Raised by the sequencer in `(XFER, i)` when the transport will never answer and the host will never present
  anything more: the hang of 60_exceptions.md R153 and 93_implementation_defined.md U9 ("no next state"). Safe: the
  model stops where the block waits for ever. Log entry 4. -/
  | transportSilent
  /-- Raised by the sequencer in `(XFER, i)` with `i > 95`, a position that 41_transaction.md R125 does not list ("any pair
  not listed has no transition") and that no run from reset reaches. Safe. Log entry 9. -/
  | sequencerOffTable
  deriving DecidableEq, Repr

/-- Why the model has no meaning for an instruction. -/
inductive Refusal where
  /-- Raised by an arm of `exec` whose instruction has no meaning yet: no arm of this model. Safe. -/
  | notModelled (mnemonic : String)
  deriving DecidableEq, Repr

/-- What a meaning answers. -/
abbrev Result := Host.Outcome State Fault Refusal

/-- The block right after power-on with the Input Packet holding `inp`, whose content the spec leaves open
(70_reset_and_hazards.md R161, R162; 93_implementation_defined.md U6). Everything else is as R161 says; the response
outputs and the model's inputs are empty (log entries 2, 3, 7). -/
def State.afterPowerOn (inp : InPacket) : State where
  outpkt := Vector.replicate Config.outLen 0#8
  inpkt := inp
  phase := .idle
  idx := 0#7
  busy := false
  fault := false
  fcode := 0#3
  sel := false
  rsp := none
  trace := []
  host := []
  board := []
  freeCount := 0

/-- The machine after reset. The Input Packet's bytes are 0: DESIGN CHOICE, unsafe, log entry 5. -/
def State.reset : State := State.afterPowerOn (Vector.replicate Config.inLen 0#8)

end Sys2Proof.Machine
end

