-- ==== Sys2Proof/Machine/Flags.lean ====
section
/-! DEFINITION. The flags and the select line: what drives them, and the level outputs they show. The block has no
arithmetic flag (10_state.md section 3). -/

namespace Sys2Proof.Machine

/-- `SelAssert()`: SEL <- 1, and the event joins the bus trace (00_scope.md R8). -/
def selAssert (s : State) : State := { s with sel := true, trace := s.trace ++ [.selAssert] }

/-- `SelDeassert()`: SEL <- 0, and the event joins the bus trace (00_scope.md R8). -/
def selDeassert (s : State) : State := { s with sel := false, trace := s.trace ++ [.selDeassert] }

/-- The causes of a fault (60_exceptions.md R140). -/
inductive FaultCause where
  | indexRange | unknownField | valueRange | illegalRequest | busyViolation
  deriving DecidableEq, Repr

/-- The code loaded into FCODE (60_exceptions.md R140). -/
def faultCode : FaultCause → BitVec 3
  | .indexRange => 1
  | .unknownField => 2
  | .valueRange => 3
  | .illegalRequest => 4
  | .busyViolation => 5

/-- The level outputs of the block (10_state.md R20). -/
structure StatusOutputs where
  busy : Bool
  fault : Bool
  fcode : BitVec 3
  sel : Bool
  deriving DecidableEq, Repr

/-- `busy`, `fault`, `fcode`, `sel` (10_state.md R20). -/
def statusOutputs (s : State) : StatusOutputs := ⟨s.busy, s.fault, s.fcode, s.sel⟩

/-- The byte transmitted at position `i`: `OUTPKT[i]` for `i ≤ 38`, the padding byte from there on
(41_transaction.md R113, R121). -/
def txByte (s : State) (i : Nat) : Byte := if i < Config.outLen then byteAt s.outpkt i else Config.pad

/-- `tx_valid` and `tx_byte` (10_state.md R25): the block asks for an exchange in phase XFER, and not once it has
faulted (60_exceptions.md R146: "no further exchange is performed"). -/
def txRequest (s : State) : Option Byte :=
  if s.phase = .xfer && !s.fault then some (txByte s s.idx.toNat) else none

end Sys2Proof.Machine
end

