-- ==== Sys2Proof/Machine/Ops.lean ====
section
/-! DEFINITION. The shared operations: responses, fault entry and the acceptance check, the four field operations, the
d-pad decoder and the steps of a transaction. -/

namespace Sys2Proof.Machine

/-! ## Responses, refusal, fault entry, acceptance -/

/-- A successful response: `rsp_err <- 0` with the given data (30_encoding.md R83). -/
def respond (data : List Byte) (s : State) : State := { s with rsp := some ⟨false, data⟩ }

/-- An error response: `rsp_err <- 1; rsp_data <- 0`, `n` bytes wide (30_encoding.md R83, 60_exceptions.md R143). It is
all a request refused while FAULT = 1 does (60_exceptions.md R147). Log entry 8. -/
def refuse (n : Nat) (s : State) : State := { s with rsp := some ⟨true, List.replicate n 0#8⟩ }

/-- Fault entry, `raise X` (60_exceptions.md R146): FAULT <- 1, FCODE <- code(X), an error response, and nothing else.
PHASE, IDX, BUSY, SEL and both packets keep their values. There is no return from a fault but RST (R148), `resetBlock`. -/
def raise (cause : FaultCause) (n : Nat) (s : State) : State :=
  { refuse n s with fault := true, fcode := faultCode cause }

/-- `Accept()` (60_exceptions.md R143), the check every request but RST passes first, then the operation itself. `n` is
the width in bytes of the operation's response. -/
def accept (n : Nat) (body : State → State) (s : State) : State :=
  if s.fault then refuse n s
  else if s.busy then raise .busyViolation n s
  else body s

/-- The fault cause of a request that the decoder rejects (30_encoding.md R78, R87, R88). -/
def decodeCause : DecodeError → FaultCause
  | .illegalRequest => .illegalRequest
  | .unknownField => .unknownField
  | .indexRange => .indexRange

/-- A request that is no instruction: it passes through `Accept()` and then faults (60_exceptions.md R144). -/
def rejectRequest (e : DecodeError) (n : Nat) (s : State) : State := accept n (raise (decodeCause e) n) s

/-! ## Field operations (40_codec_access.md R90 to R93) -/

/-- The body of a get on packet `p`: the zero-extended bits of the field instance at bit address `a`. -/
def getBody {n : Nat} (p : Packet n) (a width : Nat) (s : State) : State := respond (scalarBytes (bitRead p a width)) s

/-- The index check of GETI and SETI, before everything else they do (40_codec_access.md R92, R93). -/
def indexed (n : Nat) (r : FieldRow) (t f : BitVec 2) (body : State → State) (s : State) : State :=
  if indexOk r t f then body s else raise .indexRange n s

/-- The value check of a set, the write, and the empty response (40_codec_access.md R91, R93). -/
def setBody (r : FieldRow) (v : Scalar) (write : State → State) (s : State) : State :=
  if valueFits r v then respond [] (write s) else raise .valueRange 0 s

/-- GETO (40_codec_access.md R90). Its index check is the decoder's. -/
def getOut (x : OutField) (s : State) : Result :=
  .next (accept 2 (getBody s.outpkt (outRow x).a0 (outRow x).width) s)

/-- SETO (40_codec_access.md R91). Its index check is the decoder's. -/
def setOut (x : OutField) (v : Scalar) (s : State) : Result :=
  .next (accept 0 (setBody (outRow x) v fun s =>
    { s with outpkt := bitWrite s.outpkt (outRow x).a0 (outRow x).width v }) s)

/-- GETI (40_codec_access.md R92). -/
def getIn (x : InField) (t f : BitVec 2) (s : State) : Result :=
  .next (accept 2 (indexed 2 (inRow x) t f
    (getBody s.inpkt (fieldAddr (inRow x) t f) (inRow x).width)) s)

/-- SETI (40_codec_access.md R93). The d-pad decode is not applied. -/
def setIn (x : InField) (t f : BitVec 2) (v : Scalar) (s : State) : Result :=
  .next (accept 0 (indexed 0 (inRow x) t f (setBody (inRow x) v fun s =>
    { s with inpkt := bitWrite s.inpkt (fieldAddr (inRow x) t f) (inRow x).width v })) s)

/-! ## The d-pad decoder and the steps of a transaction (41_transaction.md) -/

/-- `DpadDecode(c)` (41_transaction.md R116, R118): bit 0 up, bit 1 right, bit 2 down, bit 3 left. -/
def dpadDecode (c : BitVec 4) : BitVec 4 :=
  let up := decide (c = 7 ∨ c = 0 ∨ c = 1)
  let right := decide (c = 1 ∨ c = 2 ∨ c = 3)
  let down := decide (c = 3 ∨ c = 4 ∨ c = 5)
  let left := decide (c = 5 ∨ c = 6 ∨ c = 7)
  BitVec.ofBool left ++ BitVec.ofBool down ++ BitVec.ofBool right ++ BitVec.ofBool up

/-- The byte address of the d-pad nibble (30_encoding.md R63). -/
def dpadByte : Nat := 13

/-- `INPKT[13] <- INPKT[13][7:4] ++ DpadDecode(INPKT[13][3:0])` (41_transaction.md R110, R116). -/
def decodeDpad (p : InPacket) : InPacket :=
  let b := byteAt p dpadByte
  setByte p dpadByte (b.extractLsb' 4 4 ++ dpadDecode (b.extractLsb' 0 4))

/-- The select step (41_transaction.md R112), the first of EXEC's 99. There is no response yet (R126). -/
def selectStep (s : State) : State :=
  { selAssert s with busy := true, idx := 0#7, phase := .xfer, rsp := none }

/-- The exchange of position `IDX` with the transport's answer `r`: the byte of that position is transmitted and `r` is
captured into `INPKT[IDX]` (41_transaction.md R113). -/
def capture (r : Byte) (s : State) : State :=
  { s with
    inpkt := setByte s.inpkt s.idx.toNat r
    trace := s.trace ++ [BusEvent.xfer (txByte s s.idx.toNat) r] }

/-- The advance after an exchange (41_transaction.md R114). After the last one IDX is left as it is (log entry 9). -/
def advance (s : State) : State :=
  if s.idx.toNat + 1 < Config.xferCount then { s with idx := s.idx + 1 } else { s with phase := .desel }

/-- The exchange step and the advance (41_transaction.md R113, R114). -/
def exchangeStep (r : Byte) (s : State) : State := advance (capture r s)

/-- The deselect step (41_transaction.md R115). -/
def deselectStep (s : State) : State := { selDeassert s with phase := .decode }

/-- The decode step and the completion of EXEC (41_transaction.md R116, R117). -/
def decodeStep (s : State) : State :=
  respond [] { s with inpkt := decodeDpad s.inpkt, phase := .idle, busy := false }

/-! ## Reset -/

/-- The `k`-th free Input Packet (70_reset_and_hazards.md R160: "INPKT[i] <- unspecified"). -/
def freePacket (k : Nat) : InPacket := Vector.ofFn fun i => Config.freeByte (k + i.val)

/-- `SEL <- 0 (SelDeassert() if SEL was 1)` (70_reset_and_hazards.md R160). -/
def selRelease (s : State) : State := if s.sel then selDeassert s else s

/-- The effect of RST (70_reset_and_hazards.md R160, R163), whatever FAULT and BUSY are. It is the only way out of a
fault (60_exceptions.md R148). The bus trace is not erased (R161). -/
def resetBlock (s : State) : State :=
  respond [] { selRelease s with
    outpkt := zeroPacket
    inpkt := freePacket s.freeCount
    phase := .idle
    idx := 0#7
    busy := false
    fault := false
    fcode := 0#3
    freeCount := s.freeCount + Config.inLen }

end Sys2Proof.Machine
end

