-- ==== Sys2Proof/Machine/GetIn.lean ====
section
/-! DEFINITION. GETI: read a field of the Input Packet (40_codec_access.md R92). One definition per row, each one line over `getIn`. -/

namespace Sys2Proof.Machine

/-- GETI IN.reportId (R92; layout R61). -/
def execGetiReportId (t f : BitVec 2) (s : State) : Result := getIn .reportId t f s

/-- GETI IN.lStickX (R92; layout R62). -/
def execGetiLStickX (t f : BitVec 2) (s : State) : Result := getIn .lStickX t f s

/-- GETI IN.lStickY (R92; layout R62). -/
def execGetiLStickY (t f : BitVec 2) (s : State) : Result := getIn .lStickY t f s

/-- GETI IN.rStickX (R92; layout R62). -/
def execGetiRStickX (t f : BitVec 2) (s : State) : Result := getIn .rStickX t f s

/-- GETI IN.rStickY (R92; layout R62). -/
def execGetiRStickY (t f : BitVec 2) (s : State) : Result := getIn .rStickY t f s

/-- GETI IN.dPadUp (R92; layout R63). -/
def execGetiDPadUp (t f : BitVec 2) (s : State) : Result := getIn .dPadUp t f s

/-- GETI IN.dPadRight (R92; layout R63). -/
def execGetiDPadRight (t f : BitVec 2) (s : State) : Result := getIn .dPadRight t f s

/-- GETI IN.dPadDown (R92; layout R63). -/
def execGetiDPadDown (t f : BitVec 2) (s : State) : Result := getIn .dPadDown t f s

/-- GETI IN.dPadLeft (R92; layout R63). -/
def execGetiDPadLeft (t f : BitVec 2) (s : State) : Result := getIn .dPadLeft t f s

/-- GETI IN.square (R92; layout R63). -/
def execGetiSquare (t f : BitVec 2) (s : State) : Result := getIn .square t f s

/-- GETI IN.cross (R92; layout R63). -/
def execGetiCross (t f : BitVec 2) (s : State) : Result := getIn .cross t f s

/-- GETI IN.circle (R92; layout R63). -/
def execGetiCircle (t f : BitVec 2) (s : State) : Result := getIn .circle t f s

/-- GETI IN.triangle (R92; layout R63). -/
def execGetiTriangle (t f : BitVec 2) (s : State) : Result := getIn .triangle t f s

/-- GETI IN.l1 (R92; layout R64). -/
def execGetiL1 (t f : BitVec 2) (s : State) : Result := getIn .l1 t f s

/-- GETI IN.r1 (R92; layout R64). -/
def execGetiR1 (t f : BitVec 2) (s : State) : Result := getIn .r1 t f s

/-- GETI IN.l2 (R92; layout R64). -/
def execGetiL2 (t f : BitVec 2) (s : State) : Result := getIn .l2 t f s

/-- GETI IN.r2 (R92; layout R64). -/
def execGetiR2 (t f : BitVec 2) (s : State) : Result := getIn .r2 t f s

/-- GETI IN.l3 (R92; layout R64). -/
def execGetiL3 (t f : BitVec 2) (s : State) : Result := getIn .l3 t f s

/-- GETI IN.r3 (R92; layout R64). -/
def execGetiR3 (t f : BitVec 2) (s : State) : Result := getIn .r3 t f s

/-- GETI IN.share (R92; layout R64). -/
def execGetiShare (t f : BitVec 2) (s : State) : Result := getIn .share t f s

/-- GETI IN.options (R92; layout R64). -/
def execGetiOptions (t f : BitVec 2) (s : State) : Result := getIn .options t f s

/-- GETI IN.ps (R92; layout R65). -/
def execGetiPs (t f : BitVec 2) (s : State) : Result := getIn .ps t f s

/-- GETI IN.tpadPress (R92; layout R65). -/
def execGetiTpadPress (t f : BitVec 2) (s : State) : Result := getIn .tpadPress t f s

/-- GETI IN.counter (R92; layout R65). -/
def execGetiCounter (t f : BitVec 2) (s : State) : Result := getIn .counter t f s

/-- GETI IN.l2Analog (R92; layout R66). -/
def execGetiL2Analog (t f : BitVec 2) (s : State) : Result := getIn .l2Analog t f s

/-- GETI IN.r2Analog (R92; layout R66). -/
def execGetiR2Analog (t f : BitVec 2) (s : State) : Result := getIn .r2Analog t f s

/-- GETI IN.gyroX (R92; layout R68). -/
def execGetiGyroX (t f : BitVec 2) (s : State) : Result := getIn .gyroX t f s

/-- GETI IN.gyroY (R92; layout R68). -/
def execGetiGyroY (t f : BitVec 2) (s : State) : Result := getIn .gyroY t f s

/-- GETI IN.gyroZ (R92; layout R68). -/
def execGetiGyroZ (t f : BitVec 2) (s : State) : Result := getIn .gyroZ t f s

/-- GETI IN.accelX (R92; layout R68). -/
def execGetiAccelX (t f : BitVec 2) (s : State) : Result := getIn .accelX t f s

/-- GETI IN.accelY (R92; layout R68). -/
def execGetiAccelY (t f : BitVec 2) (s : State) : Result := getIn .accelY t f s

/-- GETI IN.accelZ (R92; layout R68). -/
def execGetiAccelZ (t f : BitVec 2) (s : State) : Result := getIn .accelZ t f s

/-- GETI IN.battery (R92; layout R70). -/
def execGetiBattery (t f : BitVec 2) (s : State) : Result := getIn .battery t f s

/-- GETI IN.usbPresent (R92; layout R70). -/
def execGetiUsbPresent (t f : BitVec 2) (s : State) : Result := getIn .usbPresent t f s

/-- GETI IN.tpadPacketCount (R92; layout R71). -/
def execGetiTpadPacketCount (t f : BitVec 2) (s : State) : Result := getIn .tpadPacketCount t f s

/-- GETI IN.tpadCounter (R92; layout R72). -/
def execGetiTpadCounter (t f : BitVec 2) (s : State) : Result := getIn .tpadCounter t f s

/-- GETI IN.touchId (R92; layout R73). -/
def execGetiTouchId (t f : BitVec 2) (s : State) : Result := getIn .touchId t f s

/-- GETI IN.noContact (R92; layout R73). -/
def execGetiNoContact (t f : BitVec 2) (s : State) : Result := getIn .noContact t f s

/-- GETI IN.touchX (R92; layout R73). -/
def execGetiTouchX (t f : BitVec 2) (s : State) : Result := getIn .touchX t f s

/-- GETI IN.touchY (R92; layout R73). -/
def execGetiTouchY (t f : BitVec 2) (s : State) : Result := getIn .touchY t f s

/-- GETI IN.echoLStickX (R92; layout R74). -/
def execGetiEchoLStickX (t f : BitVec 2) (s : State) : Result := getIn .echoLStickX t f s

/-- GETI IN.echoLStickY (R92; layout R74). -/
def execGetiEchoLStickY (t f : BitVec 2) (s : State) : Result := getIn .echoLStickY t f s

/-- GETI IN.echoRStickX (R92; layout R74). -/
def execGetiEchoRStickX (t f : BitVec 2) (s : State) : Result := getIn .echoRStickX t f s

/-- GETI IN.echoRStickY (R92; layout R74). -/
def execGetiEchoRStickY (t f : BitVec 2) (s : State) : Result := getIn .echoRStickY t f s

/-- GETI IN.echoL2Analog (R92; layout R74). -/
def execGetiEchoL2Analog (t f : BitVec 2) (s : State) : Result := getIn .echoL2Analog t f s

/-- GETI IN.echoR2Analog (R92; layout R74). -/
def execGetiEchoR2Analog (t f : BitVec 2) (s : State) : Result := getIn .echoR2Analog t f s

/-- GETI IN.echoLTpadX (R92; layout R74). -/
def execGetiEchoLTpadX (t f : BitVec 2) (s : State) : Result := getIn .echoLTpadX t f s

/-- GETI IN.echoLTpadY (R92; layout R74). -/
def execGetiEchoLTpadY (t f : BitVec 2) (s : State) : Result := getIn .echoLTpadY t f s

/-- GETI IN.echoRTpadX (R92; layout R74). -/
def execGetiEchoRTpadX (t f : BitVec 2) (s : State) : Result := getIn .echoRTpadX t f s

/-- GETI IN.echoRTpadY (R92; layout R74). -/
def execGetiEchoRTpadY (t f : BitVec 2) (s : State) : Result := getIn .echoRTpadY t f s

/-- GETI IN.echoTiltX (R92; layout R74). -/
def execGetiEchoTiltX (t f : BitVec 2) (s : State) : Result := getIn .echoTiltX t f s

/-- GETI IN.echoTiltY (R92; layout R74). -/
def execGetiEchoTiltY (t f : BitVec 2) (s : State) : Result := getIn .echoTiltY t f s

/-- GETI IN.echoBtnDPadUp (R92; layout R75). -/
def execGetiEchoBtnDPadUp (t f : BitVec 2) (s : State) : Result := getIn .echoBtnDPadUp t f s

/-- GETI IN.echoBtnDPadRight (R92; layout R75). -/
def execGetiEchoBtnDPadRight (t f : BitVec 2) (s : State) : Result := getIn .echoBtnDPadRight t f s

/-- GETI IN.echoBtnDPadDown (R92; layout R75). -/
def execGetiEchoBtnDPadDown (t f : BitVec 2) (s : State) : Result := getIn .echoBtnDPadDown t f s

/-- GETI IN.echoBtnDPadLeft (R92; layout R75). -/
def execGetiEchoBtnDPadLeft (t f : BitVec 2) (s : State) : Result := getIn .echoBtnDPadLeft t f s

/-- GETI IN.echoBtnSquare (R92; layout R75). -/
def execGetiEchoBtnSquare (t f : BitVec 2) (s : State) : Result := getIn .echoBtnSquare t f s

/-- GETI IN.echoBtnCross (R92; layout R75). -/
def execGetiEchoBtnCross (t f : BitVec 2) (s : State) : Result := getIn .echoBtnCross t f s

/-- GETI IN.echoBtnCircle (R92; layout R75). -/
def execGetiEchoBtnCircle (t f : BitVec 2) (s : State) : Result := getIn .echoBtnCircle t f s

/-- GETI IN.echoBtnTriangle (R92; layout R75). -/
def execGetiEchoBtnTriangle (t f : BitVec 2) (s : State) : Result := getIn .echoBtnTriangle t f s

/-- GETI IN.echoBtnL1 (R92; layout R75). -/
def execGetiEchoBtnL1 (t f : BitVec 2) (s : State) : Result := getIn .echoBtnL1 t f s

/-- GETI IN.echoBtnR1 (R92; layout R75). -/
def execGetiEchoBtnR1 (t f : BitVec 2) (s : State) : Result := getIn .echoBtnR1 t f s

/-- GETI IN.echoBtnL2 (R92; layout R75). -/
def execGetiEchoBtnL2 (t f : BitVec 2) (s : State) : Result := getIn .echoBtnL2 t f s

/-- GETI IN.echoBtnR2 (R92; layout R75). -/
def execGetiEchoBtnR2 (t f : BitVec 2) (s : State) : Result := getIn .echoBtnR2 t f s

/-- GETI IN.echoBtnL3 (R92; layout R75). -/
def execGetiEchoBtnL3 (t f : BitVec 2) (s : State) : Result := getIn .echoBtnL3 t f s

/-- GETI IN.echoBtnR3 (R92; layout R75). -/
def execGetiEchoBtnR3 (t f : BitVec 2) (s : State) : Result := getIn .echoBtnR3 t f s

/-- GETI IN.echoBtnShare (R92; layout R75). -/
def execGetiEchoBtnShare (t f : BitVec 2) (s : State) : Result := getIn .echoBtnShare t f s

/-- GETI IN.echoBtnOptions (R92; layout R75). -/
def execGetiEchoBtnOptions (t f : BitVec 2) (s : State) : Result := getIn .echoBtnOptions t f s

/-- GETI IN.echoBtnPs (R92; layout R75). -/
def execGetiEchoBtnPs (t f : BitVec 2) (s : State) : Result := getIn .echoBtnPs t f s

/-- GETI IN.echoBtnTpadPress (R92; layout R75). -/
def execGetiEchoBtnTpadPress (t f : BitVec 2) (s : State) : Result := getIn .echoBtnTpadPress t f s

end Sys2Proof.Machine
end

