-- ==== Sys2Proof/Machine/GetOut.lean ====
section
/-! DEFINITION. GETO: read a field of the Output Packet (40_codec_access.md R90). One definition per row, each one line over `getOut`. -/

namespace Sys2Proof.Machine

/-- GETO OUT.ovrLed (R90; layout R55). -/
def execGetoOvrLed (s : State) : Result := getOut .ovrLed s

/-- GETO OUT.ovrRumbleLow (R90; layout R55). -/
def execGetoOvrRumbleLow (s : State) : Result := getOut .ovrRumbleLow s

/-- GETO OUT.ovrRumbleHigh (R90; layout R55). -/
def execGetoOvrRumbleHigh (s : State) : Result := getOut .ovrRumbleHigh s

/-- GETO OUT.ovrLStickX (R90; layout R55). -/
def execGetoOvrLStickX (s : State) : Result := getOut .ovrLStickX s

/-- GETO OUT.ovrLStickY (R90; layout R55). -/
def execGetoOvrLStickY (s : State) : Result := getOut .ovrLStickY s

/-- GETO OUT.ovrRStickX (R90; layout R55). -/
def execGetoOvrRStickX (s : State) : Result := getOut .ovrRStickX s

/-- GETO OUT.ovrRStickY (R90; layout R55). -/
def execGetoOvrRStickY (s : State) : Result := getOut .ovrRStickY s

/-- GETO OUT.ovrL2Analog (R90; layout R55). -/
def execGetoOvrL2Analog (s : State) : Result := getOut .ovrL2Analog s

/-- GETO OUT.ovrR2Analog (R90; layout R55). -/
def execGetoOvrR2Analog (s : State) : Result := getOut .ovrR2Analog s

/-- GETO OUT.ovrLTpadX (R90; layout R55). -/
def execGetoOvrLTpadX (s : State) : Result := getOut .ovrLTpadX s

/-- GETO OUT.ovrLTpadY (R90; layout R55). -/
def execGetoOvrLTpadY (s : State) : Result := getOut .ovrLTpadY s

/-- GETO OUT.ovrRTpadX (R90; layout R55). -/
def execGetoOvrRTpadX (s : State) : Result := getOut .ovrRTpadX s

/-- GETO OUT.ovrRTpadY (R90; layout R55). -/
def execGetoOvrRTpadY (s : State) : Result := getOut .ovrRTpadY s

/-- GETO OUT.ovrTiltX (R90; layout R55). -/
def execGetoOvrTiltX (s : State) : Result := getOut .ovrTiltX s

/-- GETO OUT.ovrTiltY (R90; layout R55). -/
def execGetoOvrTiltY (s : State) : Result := getOut .ovrTiltY s

/-- GETO OUT.ovrDPadUp (R90; layout R55). -/
def execGetoOvrDPadUp (s : State) : Result := getOut .ovrDPadUp s

/-- GETO OUT.ovrDPadRight (R90; layout R55). -/
def execGetoOvrDPadRight (s : State) : Result := getOut .ovrDPadRight s

/-- GETO OUT.ovrDPadDown (R90; layout R55). -/
def execGetoOvrDPadDown (s : State) : Result := getOut .ovrDPadDown s

/-- GETO OUT.ovrDPadLeft (R90; layout R55). -/
def execGetoOvrDPadLeft (s : State) : Result := getOut .ovrDPadLeft s

/-- GETO OUT.ovrSquare (R90; layout R55). -/
def execGetoOvrSquare (s : State) : Result := getOut .ovrSquare s

/-- GETO OUT.ovrCross (R90; layout R55). -/
def execGetoOvrCross (s : State) : Result := getOut .ovrCross s

/-- GETO OUT.ovrCircle (R90; layout R55). -/
def execGetoOvrCircle (s : State) : Result := getOut .ovrCircle s

/-- GETO OUT.ovrTriangle (R90; layout R55). -/
def execGetoOvrTriangle (s : State) : Result := getOut .ovrTriangle s

/-- GETO OUT.ovrL1 (R90; layout R55). -/
def execGetoOvrL1 (s : State) : Result := getOut .ovrL1 s

/-- GETO OUT.ovrR1 (R90; layout R55). -/
def execGetoOvrR1 (s : State) : Result := getOut .ovrR1 s

/-- GETO OUT.ovrL2 (R90; layout R55). -/
def execGetoOvrL2 (s : State) : Result := getOut .ovrL2 s

/-- GETO OUT.ovrR2 (R90; layout R55). -/
def execGetoOvrR2 (s : State) : Result := getOut .ovrR2 s

/-- GETO OUT.ovrL3 (R90; layout R55). -/
def execGetoOvrL3 (s : State) : Result := getOut .ovrL3 s

/-- GETO OUT.ovrR3 (R90; layout R55). -/
def execGetoOvrR3 (s : State) : Result := getOut .ovrR3 s

/-- GETO OUT.ovrShare (R90; layout R55). -/
def execGetoOvrShare (s : State) : Result := getOut .ovrShare s

/-- GETO OUT.ovrOptions (R90; layout R55). -/
def execGetoOvrOptions (s : State) : Result := getOut .ovrOptions s

/-- GETO OUT.ovrPs (R90; layout R55). -/
def execGetoOvrPs (s : State) : Result := getOut .ovrPs s

/-- GETO OUT.ovrTpadPress (R90; layout R55). -/
def execGetoOvrTpadPress (s : State) : Result := getOut .ovrTpadPress s

/-- GETO OUT.ledRed (R90; layout R56). -/
def execGetoLedRed (s : State) : Result := getOut .ledRed s

/-- GETO OUT.ledGreen (R90; layout R56). -/
def execGetoLedGreen (s : State) : Result := getOut .ledGreen s

/-- GETO OUT.ledBlue (R90; layout R56). -/
def execGetoLedBlue (s : State) : Result := getOut .ledBlue s

/-- GETO OUT.blinkOn (R90; layout R56). -/
def execGetoBlinkOn (s : State) : Result := getOut .blinkOn s

/-- GETO OUT.blinkOff (R90; layout R56). -/
def execGetoBlinkOff (s : State) : Result := getOut .blinkOff s

/-- GETO OUT.rumbleLow (R90; layout R56). -/
def execGetoRumbleLow (s : State) : Result := getOut .rumbleLow s

/-- GETO OUT.rumbleHigh (R90; layout R56). -/
def execGetoRumbleHigh (s : State) : Result := getOut .rumbleHigh s

/-- GETO OUT.pwLStickX (R90; layout R57). -/
def execGetoPwLStickX (s : State) : Result := getOut .pwLStickX s

/-- GETO OUT.pwLStickY (R90; layout R57). -/
def execGetoPwLStickY (s : State) : Result := getOut .pwLStickY s

/-- GETO OUT.pwRStickX (R90; layout R57). -/
def execGetoPwRStickX (s : State) : Result := getOut .pwRStickX s

/-- GETO OUT.pwRStickY (R90; layout R57). -/
def execGetoPwRStickY (s : State) : Result := getOut .pwRStickY s

/-- GETO OUT.pwL2Analog (R90; layout R57). -/
def execGetoPwL2Analog (s : State) : Result := getOut .pwL2Analog s

/-- GETO OUT.pwR2Analog (R90; layout R57). -/
def execGetoPwR2Analog (s : State) : Result := getOut .pwR2Analog s

/-- GETO OUT.pwLTpadX (R90; layout R57). -/
def execGetoPwLTpadX (s : State) : Result := getOut .pwLTpadX s

/-- GETO OUT.pwLTpadY (R90; layout R57). -/
def execGetoPwLTpadY (s : State) : Result := getOut .pwLTpadY s

/-- GETO OUT.pwRTpadX (R90; layout R57). -/
def execGetoPwRTpadX (s : State) : Result := getOut .pwRTpadX s

/-- GETO OUT.pwRTpadY (R90; layout R57). -/
def execGetoPwRTpadY (s : State) : Result := getOut .pwRTpadY s

/-- GETO OUT.pwTiltX (R90; layout R57). -/
def execGetoPwTiltX (s : State) : Result := getOut .pwTiltX s

/-- GETO OUT.pwTiltY (R90; layout R57). -/
def execGetoPwTiltY (s : State) : Result := getOut .pwTiltY s

/-- GETO OUT.stDPadUp (R90; layout R58). -/
def execGetoStDPadUp (s : State) : Result := getOut .stDPadUp s

/-- GETO OUT.stDPadRight (R90; layout R58). -/
def execGetoStDPadRight (s : State) : Result := getOut .stDPadRight s

/-- GETO OUT.stDPadDown (R90; layout R58). -/
def execGetoStDPadDown (s : State) : Result := getOut .stDPadDown s

/-- GETO OUT.stDPadLeft (R90; layout R58). -/
def execGetoStDPadLeft (s : State) : Result := getOut .stDPadLeft s

/-- GETO OUT.stSquare (R90; layout R58). -/
def execGetoStSquare (s : State) : Result := getOut .stSquare s

/-- GETO OUT.stCross (R90; layout R58). -/
def execGetoStCross (s : State) : Result := getOut .stCross s

/-- GETO OUT.stCircle (R90; layout R58). -/
def execGetoStCircle (s : State) : Result := getOut .stCircle s

/-- GETO OUT.stTriangle (R90; layout R58). -/
def execGetoStTriangle (s : State) : Result := getOut .stTriangle s

/-- GETO OUT.stL1 (R90; layout R58). -/
def execGetoStL1 (s : State) : Result := getOut .stL1 s

/-- GETO OUT.stR1 (R90; layout R58). -/
def execGetoStR1 (s : State) : Result := getOut .stR1 s

/-- GETO OUT.stL2 (R90; layout R58). -/
def execGetoStL2 (s : State) : Result := getOut .stL2 s

/-- GETO OUT.stR2 (R90; layout R58). -/
def execGetoStR2 (s : State) : Result := getOut .stR2 s

/-- GETO OUT.stL3 (R90; layout R58). -/
def execGetoStL3 (s : State) : Result := getOut .stL3 s

/-- GETO OUT.stR3 (R90; layout R58). -/
def execGetoStR3 (s : State) : Result := getOut .stR3 s

/-- GETO OUT.stShare (R90; layout R58). -/
def execGetoStShare (s : State) : Result := getOut .stShare s

/-- GETO OUT.stOptions (R90; layout R58). -/
def execGetoStOptions (s : State) : Result := getOut .stOptions s

/-- GETO OUT.stPs (R90; layout R58). -/
def execGetoStPs (s : State) : Result := getOut .stPs s

/-- GETO OUT.stTpadPress (R90; layout R58). -/
def execGetoStTpadPress (s : State) : Result := getOut .stTpadPress s

end Sys2Proof.Machine
end

