-- ==== Sys2Proof/Machine/Indicator.lean ====
section
/-! DEFINITION. The indicator convenience operation (42_indicator.md). -/

namespace Sys2Proof.Machine

/-- Bytes 5..9 of the Output Packet are written, and nothing else: not the enable flag `ovrLed` either (R130, R131). -/
def setLedBytes (red green blue blinkOn blinkOff : Byte) (p : OutPacket) : OutPacket :=
  setByte (setByte (setByte (setByte (setByte p 5 red) 6 green) 7 blue) 8 blinkOn) 9 blinkOff

/-- SETIND (R130). -/
def execSetind (red green blue blinkOn blinkOff : Byte) (s : State) : Result :=
  .next (accept 0 (fun s =>
    respond [] { s with outpkt := setLedBytes red green blue blinkOn blinkOff s.outpkt }) s)

end Sys2Proof.Machine
end

