-- ==== Sys2Proof/Machine/Raw.lean ====
section
/-! DEFINITION. The raw view and replace operations (40_codec_access.md R94 to R97). -/

namespace Sys2Proof.Machine

/-- RDO: the 39 bytes of the Output Packet, reserved bits included (R94). -/
def execRdo (s : State) : Result := .next (accept Config.outLen (respond (packetBytes s.outpkt)) s)

/-- WRO: all 39 bytes of the Output Packet are replaced, reserved bits included (R95). -/
def execWro (b : OutPacket) (s : State) : Result :=
  .next (accept 0 (fun s => respond [] { s with outpkt := b }) s)

/-- RDI: the 96 bytes of the Input Packet (R96). -/
def execRdi (s : State) : Result := .next (accept Config.inLen (respond (packetBytes s.inpkt)) s)

/-- WRI: all 96 bytes of the Input Packet are replaced; the d-pad decode is not applied (R97). -/
def execWri (b : InPacket) (s : State) : Result :=
  .next (accept 0 (fun s => respond [] { s with inpkt := b }) s)

end Sys2Proof.Machine
end

