-- ==== Sys2Proof/Machine/Reserved.lean ====
section
/-! DEFINITION. The reserved operation codes: each request raises IllegalRequest, whatever its bits 11:0 are
(30_encoding.md R86; 60_exceptions.md R140, R146). -/

namespace Sys2Proof.Machine

/-- The one effect of a reserved operation code (30_encoding.md R86). -/
def illegalOperation (s : State) : Result := .next (accept 0 (raise .illegalRequest 0) s)

/-- Operation code 0x0 (R86). -/
def execReservedOp0 (_low : BitVec 12) (s : State) : Result := illegalOperation s

/-- Operation code 0xC (R86). -/
def execReservedOpC (_low : BitVec 12) (s : State) : Result := illegalOperation s

/-- Operation code 0xD (R86). -/
def execReservedOpD (_low : BitVec 12) (s : State) : Result := illegalOperation s

/-- Operation code 0xE (R86). -/
def execReservedOpE (_low : BitVec 12) (s : State) : Result := illegalOperation s

/-- Operation code 0xF (R86). -/
def execReservedOpF (_low : BitVec 12) (s : State) : Result := illegalOperation s

end Sys2Proof.Machine
end

