-- ==== Sys2Proof/Machine/Reset.lean ====
section
/-! DEFINITION. The reset operation (70_reset_and_hazards.md). -/

namespace Sys2Proof.Machine

/-- RST: it does not pass through `Accept()` and is performed whatever FAULT and BUSY are (R160, R163). -/
def execRst (s : State) : Result := .next (resetBlock s)

end Sys2Proof.Machine
end

