-- ==== Sys2Proof/Machine/SetIn.lean ====
section
/-! DEFINITION. SETI: write a field of the Input Packet (40_codec_access.md R93). One definition per row, each one line over `setIn`. -/

namespace Sys2Proof.Machine

/-- SETI IN.reportId (R93; layout R61). -/
def execSetiReportId (t f : BitVec 2) (v : Scalar) (s : State) : Result := setIn .reportId t f v s

/-- SETI IN.lStickX (R93; layout R62). -/
def execSetiLStickX (t f : BitVec 2) (v : Scalar) (s : State) : Result := setIn .lStickX t f v s

/-- SETI IN.lStickY (R93; layout R62). -/
def execSetiLStickY (t f : BitVec 2) (v : Scalar) (s : State) : Result := setIn .lStickY t f v s

/-- SETI IN.rStickX (R93; layout R62). -/
def execSetiRStickX (t f : BitVec 2) (v : Scalar) (s : State) : Result := setIn .rStickX t f v s

/-- SETI IN.rStickY (R93; layout R62). -/
def execSetiRStickY (t f : BitVec 2) (v : Scalar) (s : State) : Result := setIn .rStickY t f v s

/-- SETI IN.dPadUp (R93; layout R63). -/
def execSetiDPadUp (t f : BitVec 2) (v : Scalar) (s : State) : Result := setIn .dPadUp t f v s

/-- SETI IN.dPadRight (R93; layout R63). -/
def execSetiDPadRight (t f : BitVec 2) (v : Scalar) (s : State) : Result := setIn .dPadRight t f v s

/-- SETI IN.dPadDown (R93; layout R63). -/
def execSetiDPadDown (t f : BitVec 2) (v : Scalar) (s : State) : Result := setIn .dPadDown t f v s

/-- SETI IN.dPadLeft (R93; layout R63). -/
def execSetiDPadLeft (t f : BitVec 2) (v : Scalar) (s : State) : Result := setIn .dPadLeft t f v s

/-- SETI IN.square (R93; layout R63). -/
def execSetiSquare (t f : BitVec 2) (v : Scalar) (s : State) : Result := setIn .square t f v s

/-- SETI IN.cross (R93; layout R63). -/
def execSetiCross (t f : BitVec 2) (v : Scalar) (s : State) : Result := setIn .cross t f v s

/-- SETI IN.circle (R93; layout R63). -/
def execSetiCircle (t f : BitVec 2) (v : Scalar) (s : State) : Result := setIn .circle t f v s

/-- SETI IN.triangle (R93; layout R63). -/
def execSetiTriangle (t f : BitVec 2) (v : Scalar) (s : State) : Result := setIn .triangle t f v s

/-- SETI IN.l1 (R93; layout R64). -/
def execSetiL1 (t f : BitVec 2) (v : Scalar) (s : State) : Result := setIn .l1 t f v s

/-- SETI IN.r1 (R93; layout R64). -/
def execSetiR1 (t f : BitVec 2) (v : Scalar) (s : State) : Result := setIn .r1 t f v s

/-- SETI IN.l2 (R93; layout R64). -/
def execSetiL2 (t f : BitVec 2) (v : Scalar) (s : State) : Result := setIn .l2 t f v s

/-- SETI IN.r2 (R93; layout R64). -/
def execSetiR2 (t f : BitVec 2) (v : Scalar) (s : State) : Result := setIn .r2 t f v s

/-- SETI IN.l3 (R93; layout R64). -/
def execSetiL3 (t f : BitVec 2) (v : Scalar) (s : State) : Result := setIn .l3 t f v s

/-- SETI IN.r3 (R93; layout R64). -/
def execSetiR3 (t f : BitVec 2) (v : Scalar) (s : State) : Result := setIn .r3 t f v s

/-- SETI IN.share (R93; layout R64). -/
def execSetiShare (t f : BitVec 2) (v : Scalar) (s : State) : Result := setIn .share t f v s

/-- SETI IN.options (R93; layout R64). -/
def execSetiOptions (t f : BitVec 2) (v : Scalar) (s : State) : Result := setIn .options t f v s

/-- SETI IN.ps (R93; layout R65). -/
def execSetiPs (t f : BitVec 2) (v : Scalar) (s : State) : Result := setIn .ps t f v s

/-- SETI IN.tpadPress (R93; layout R65). -/
def execSetiTpadPress (t f : BitVec 2) (v : Scalar) (s : State) : Result := setIn .tpadPress t f v s

/-- SETI IN.counter (R93; layout R65). -/
def execSetiCounter (t f : BitVec 2) (v : Scalar) (s : State) : Result := setIn .counter t f v s

/-- SETI IN.l2Analog (R93; layout R66). -/
def execSetiL2Analog (t f : BitVec 2) (v : Scalar) (s : State) : Result := setIn .l2Analog t f v s

/-- SETI IN.r2Analog (R93; layout R66). -/
def execSetiR2Analog (t f : BitVec 2) (v : Scalar) (s : State) : Result := setIn .r2Analog t f v s

/-- SETI IN.gyroX (R93; layout R68). -/
def execSetiGyroX (t f : BitVec 2) (v : Scalar) (s : State) : Result := setIn .gyroX t f v s

/-- SETI IN.gyroY (R93; layout R68). -/
def execSetiGyroY (t f : BitVec 2) (v : Scalar) (s : State) : Result := setIn .gyroY t f v s

/-- SETI IN.gyroZ (R93; layout R68). -/
def execSetiGyroZ (t f : BitVec 2) (v : Scalar) (s : State) : Result := setIn .gyroZ t f v s

/-- SETI IN.accelX (R93; layout R68). -/
def execSetiAccelX (t f : BitVec 2) (v : Scalar) (s : State) : Result := setIn .accelX t f v s

/-- SETI IN.accelY (R93; layout R68). -/
def execSetiAccelY (t f : BitVec 2) (v : Scalar) (s : State) : Result := setIn .accelY t f v s

/-- SETI IN.accelZ (R93; layout R68). -/
def execSetiAccelZ (t f : BitVec 2) (v : Scalar) (s : State) : Result := setIn .accelZ t f v s

/-- SETI IN.battery (R93; layout R70). -/
def execSetiBattery (t f : BitVec 2) (v : Scalar) (s : State) : Result := setIn .battery t f v s

/-- SETI IN.usbPresent (R93; layout R70). -/
def execSetiUsbPresent (t f : BitVec 2) (v : Scalar) (s : State) : Result := setIn .usbPresent t f v s

/-- SETI IN.tpadPacketCount (R93; layout R71). -/
def execSetiTpadPacketCount (t f : BitVec 2) (v : Scalar) (s : State) : Result := setIn .tpadPacketCount t f v s

/-- SETI IN.tpadCounter (R93; layout R72). -/
def execSetiTpadCounter (t f : BitVec 2) (v : Scalar) (s : State) : Result := setIn .tpadCounter t f v s

/-- SETI IN.touchId (R93; layout R73). -/
def execSetiTouchId (t f : BitVec 2) (v : Scalar) (s : State) : Result := setIn .touchId t f v s

/-- SETI IN.noContact (R93; layout R73). -/
def execSetiNoContact (t f : BitVec 2) (v : Scalar) (s : State) : Result := setIn .noContact t f v s

/-- SETI IN.touchX (R93; layout R73). -/
def execSetiTouchX (t f : BitVec 2) (v : Scalar) (s : State) : Result := setIn .touchX t f v s

/-- SETI IN.touchY (R93; layout R73). -/
def execSetiTouchY (t f : BitVec 2) (v : Scalar) (s : State) : Result := setIn .touchY t f v s

/-- SETI IN.echoLStickX (R93; layout R74). -/
def execSetiEchoLStickX (t f : BitVec 2) (v : Scalar) (s : State) : Result := setIn .echoLStickX t f v s

/-- SETI IN.echoLStickY (R93; layout R74). -/
def execSetiEchoLStickY (t f : BitVec 2) (v : Scalar) (s : State) : Result := setIn .echoLStickY t f v s

/-- SETI IN.echoRStickX (R93; layout R74). -/
def execSetiEchoRStickX (t f : BitVec 2) (v : Scalar) (s : State) : Result := setIn .echoRStickX t f v s

/-- SETI IN.echoRStickY (R93; layout R74). -/
def execSetiEchoRStickY (t f : BitVec 2) (v : Scalar) (s : State) : Result := setIn .echoRStickY t f v s

/-- SETI IN.echoL2Analog (R93; layout R74). -/
def execSetiEchoL2Analog (t f : BitVec 2) (v : Scalar) (s : State) : Result := setIn .echoL2Analog t f v s

/-- SETI IN.echoR2Analog (R93; layout R74). -/
def execSetiEchoR2Analog (t f : BitVec 2) (v : Scalar) (s : State) : Result := setIn .echoR2Analog t f v s

/-- SETI IN.echoLTpadX (R93; layout R74). -/
def execSetiEchoLTpadX (t f : BitVec 2) (v : Scalar) (s : State) : Result := setIn .echoLTpadX t f v s

/-- SETI IN.echoLTpadY (R93; layout R74). -/
def execSetiEchoLTpadY (t f : BitVec 2) (v : Scalar) (s : State) : Result := setIn .echoLTpadY t f v s

/-- SETI IN.echoRTpadX (R93; layout R74). -/
def execSetiEchoRTpadX (t f : BitVec 2) (v : Scalar) (s : State) : Result := setIn .echoRTpadX t f v s

/-- SETI IN.echoRTpadY (R93; layout R74). -/
def execSetiEchoRTpadY (t f : BitVec 2) (v : Scalar) (s : State) : Result := setIn .echoRTpadY t f v s

/-- SETI IN.echoTiltX (R93; layout R74). -/
def execSetiEchoTiltX (t f : BitVec 2) (v : Scalar) (s : State) : Result := setIn .echoTiltX t f v s

/-- SETI IN.echoTiltY (R93; layout R74). -/
def execSetiEchoTiltY (t f : BitVec 2) (v : Scalar) (s : State) : Result := setIn .echoTiltY t f v s

/-- SETI IN.echoBtnDPadUp (R93; layout R75). -/
def execSetiEchoBtnDPadUp (t f : BitVec 2) (v : Scalar) (s : State) : Result := setIn .echoBtnDPadUp t f v s

/-- SETI IN.echoBtnDPadRight (R93; layout R75). -/
def execSetiEchoBtnDPadRight (t f : BitVec 2) (v : Scalar) (s : State) : Result := setIn .echoBtnDPadRight t f v s

/-- SETI IN.echoBtnDPadDown (R93; layout R75). -/
def execSetiEchoBtnDPadDown (t f : BitVec 2) (v : Scalar) (s : State) : Result := setIn .echoBtnDPadDown t f v s

/-- SETI IN.echoBtnDPadLeft (R93; layout R75). -/
def execSetiEchoBtnDPadLeft (t f : BitVec 2) (v : Scalar) (s : State) : Result := setIn .echoBtnDPadLeft t f v s

/-- SETI IN.echoBtnSquare (R93; layout R75). -/
def execSetiEchoBtnSquare (t f : BitVec 2) (v : Scalar) (s : State) : Result := setIn .echoBtnSquare t f v s

/-- SETI IN.echoBtnCross (R93; layout R75). -/
def execSetiEchoBtnCross (t f : BitVec 2) (v : Scalar) (s : State) : Result := setIn .echoBtnCross t f v s

/-- SETI IN.echoBtnCircle (R93; layout R75). -/
def execSetiEchoBtnCircle (t f : BitVec 2) (v : Scalar) (s : State) : Result := setIn .echoBtnCircle t f v s

/-- SETI IN.echoBtnTriangle (R93; layout R75). -/
def execSetiEchoBtnTriangle (t f : BitVec 2) (v : Scalar) (s : State) : Result := setIn .echoBtnTriangle t f v s

/-- SETI IN.echoBtnL1 (R93; layout R75). -/
def execSetiEchoBtnL1 (t f : BitVec 2) (v : Scalar) (s : State) : Result := setIn .echoBtnL1 t f v s

/-- SETI IN.echoBtnR1 (R93; layout R75). -/
def execSetiEchoBtnR1 (t f : BitVec 2) (v : Scalar) (s : State) : Result := setIn .echoBtnR1 t f v s

/-- SETI IN.echoBtnL2 (R93; layout R75). -/
def execSetiEchoBtnL2 (t f : BitVec 2) (v : Scalar) (s : State) : Result := setIn .echoBtnL2 t f v s

/-- SETI IN.echoBtnR2 (R93; layout R75). -/
def execSetiEchoBtnR2 (t f : BitVec 2) (v : Scalar) (s : State) : Result := setIn .echoBtnR2 t f v s

/-- SETI IN.echoBtnL3 (R93; layout R75). -/
def execSetiEchoBtnL3 (t f : BitVec 2) (v : Scalar) (s : State) : Result := setIn .echoBtnL3 t f v s

/-- SETI IN.echoBtnR3 (R93; layout R75). -/
def execSetiEchoBtnR3 (t f : BitVec 2) (v : Scalar) (s : State) : Result := setIn .echoBtnR3 t f v s

/-- SETI IN.echoBtnShare (R93; layout R75). -/
def execSetiEchoBtnShare (t f : BitVec 2) (v : Scalar) (s : State) : Result := setIn .echoBtnShare t f v s

/-- SETI IN.echoBtnOptions (R93; layout R75). -/
def execSetiEchoBtnOptions (t f : BitVec 2) (v : Scalar) (s : State) : Result := setIn .echoBtnOptions t f v s

/-- SETI IN.echoBtnPs (R93; layout R75). -/
def execSetiEchoBtnPs (t f : BitVec 2) (v : Scalar) (s : State) : Result := setIn .echoBtnPs t f v s

/-- SETI IN.echoBtnTpadPress (R93; layout R75). -/
def execSetiEchoBtnTpadPress (t f : BitVec 2) (v : Scalar) (s : State) : Result := setIn .echoBtnTpadPress t f v s

end Sys2Proof.Machine
end

