-- ==== Sys2Proof/Machine/SetOut.lean ====
section
/-! DEFINITION. SETO: write a field of the Output Packet (40_codec_access.md R91). One definition per row, each one line over `setOut`. -/

namespace Sys2Proof.Machine

/-- SETO OUT.ovrLed (R91; layout R55). -/
def execSetoOvrLed (v : Scalar) (s : State) : Result := setOut .ovrLed v s

/-- SETO OUT.ovrRumbleLow (R91; layout R55). -/
def execSetoOvrRumbleLow (v : Scalar) (s : State) : Result := setOut .ovrRumbleLow v s

/-- SETO OUT.ovrRumbleHigh (R91; layout R55). -/
def execSetoOvrRumbleHigh (v : Scalar) (s : State) : Result := setOut .ovrRumbleHigh v s

/-- SETO OUT.ovrLStickX (R91; layout R55). -/
def execSetoOvrLStickX (v : Scalar) (s : State) : Result := setOut .ovrLStickX v s

/-- SETO OUT.ovrLStickY (R91; layout R55). -/
def execSetoOvrLStickY (v : Scalar) (s : State) : Result := setOut .ovrLStickY v s

/-- SETO OUT.ovrRStickX (R91; layout R55). -/
def execSetoOvrRStickX (v : Scalar) (s : State) : Result := setOut .ovrRStickX v s

/-- SETO OUT.ovrRStickY (R91; layout R55). -/
def execSetoOvrRStickY (v : Scalar) (s : State) : Result := setOut .ovrRStickY v s

/-- SETO OUT.ovrL2Analog (R91; layout R55). -/
def execSetoOvrL2Analog (v : Scalar) (s : State) : Result := setOut .ovrL2Analog v s

/-- SETO OUT.ovrR2Analog (R91; layout R55). -/
def execSetoOvrR2Analog (v : Scalar) (s : State) : Result := setOut .ovrR2Analog v s

/-- SETO OUT.ovrLTpadX (R91; layout R55). -/
def execSetoOvrLTpadX (v : Scalar) (s : State) : Result := setOut .ovrLTpadX v s

/-- SETO OUT.ovrLTpadY (R91; layout R55). -/
def execSetoOvrLTpadY (v : Scalar) (s : State) : Result := setOut .ovrLTpadY v s

/-- SETO OUT.ovrRTpadX (R91; layout R55). -/
def execSetoOvrRTpadX (v : Scalar) (s : State) : Result := setOut .ovrRTpadX v s

/-- SETO OUT.ovrRTpadY (R91; layout R55). -/
def execSetoOvrRTpadY (v : Scalar) (s : State) : Result := setOut .ovrRTpadY v s

/-- SETO OUT.ovrTiltX (R91; layout R55). -/
def execSetoOvrTiltX (v : Scalar) (s : State) : Result := setOut .ovrTiltX v s

/-- SETO OUT.ovrTiltY (R91; layout R55). -/
def execSetoOvrTiltY (v : Scalar) (s : State) : Result := setOut .ovrTiltY v s

/-- SETO OUT.ovrDPadUp (R91; layout R55). -/
def execSetoOvrDPadUp (v : Scalar) (s : State) : Result := setOut .ovrDPadUp v s

/-- SETO OUT.ovrDPadRight (R91; layout R55). -/
def execSetoOvrDPadRight (v : Scalar) (s : State) : Result := setOut .ovrDPadRight v s

/-- SETO OUT.ovrDPadDown (R91; layout R55). -/
def execSetoOvrDPadDown (v : Scalar) (s : State) : Result := setOut .ovrDPadDown v s

/-- SETO OUT.ovrDPadLeft (R91; layout R55). -/
def execSetoOvrDPadLeft (v : Scalar) (s : State) : Result := setOut .ovrDPadLeft v s

/-- SETO OUT.ovrSquare (R91; layout R55). -/
def execSetoOvrSquare (v : Scalar) (s : State) : Result := setOut .ovrSquare v s

/-- SETO OUT.ovrCross (R91; layout R55). -/
def execSetoOvrCross (v : Scalar) (s : State) : Result := setOut .ovrCross v s

/-- SETO OUT.ovrCircle (R91; layout R55). -/
def execSetoOvrCircle (v : Scalar) (s : State) : Result := setOut .ovrCircle v s

/-- SETO OUT.ovrTriangle (R91; layout R55). -/
def execSetoOvrTriangle (v : Scalar) (s : State) : Result := setOut .ovrTriangle v s

/-- SETO OUT.ovrL1 (R91; layout R55). -/
def execSetoOvrL1 (v : Scalar) (s : State) : Result := setOut .ovrL1 v s

/-- SETO OUT.ovrR1 (R91; layout R55). -/
def execSetoOvrR1 (v : Scalar) (s : State) : Result := setOut .ovrR1 v s

/-- SETO OUT.ovrL2 (R91; layout R55). -/
def execSetoOvrL2 (v : Scalar) (s : State) : Result := setOut .ovrL2 v s

/-- SETO OUT.ovrR2 (R91; layout R55). -/
def execSetoOvrR2 (v : Scalar) (s : State) : Result := setOut .ovrR2 v s

/-- SETO OUT.ovrL3 (R91; layout R55). -/
def execSetoOvrL3 (v : Scalar) (s : State) : Result := setOut .ovrL3 v s

/-- SETO OUT.ovrR3 (R91; layout R55). -/
def execSetoOvrR3 (v : Scalar) (s : State) : Result := setOut .ovrR3 v s

/-- SETO OUT.ovrShare (R91; layout R55). -/
def execSetoOvrShare (v : Scalar) (s : State) : Result := setOut .ovrShare v s

/-- SETO OUT.ovrOptions (R91; layout R55). -/
def execSetoOvrOptions (v : Scalar) (s : State) : Result := setOut .ovrOptions v s

/-- SETO OUT.ovrPs (R91; layout R55). -/
def execSetoOvrPs (v : Scalar) (s : State) : Result := setOut .ovrPs v s

/-- SETO OUT.ovrTpadPress (R91; layout R55). -/
def execSetoOvrTpadPress (v : Scalar) (s : State) : Result := setOut .ovrTpadPress v s

/-- SETO OUT.ledRed (R91; layout R56). -/
def execSetoLedRed (v : Scalar) (s : State) : Result := setOut .ledRed v s

/-- SETO OUT.ledGreen (R91; layout R56). -/
def execSetoLedGreen (v : Scalar) (s : State) : Result := setOut .ledGreen v s

/-- SETO OUT.ledBlue (R91; layout R56). -/
def execSetoLedBlue (v : Scalar) (s : State) : Result := setOut .ledBlue v s

/-- SETO OUT.blinkOn (R91; layout R56). -/
def execSetoBlinkOn (v : Scalar) (s : State) : Result := setOut .blinkOn v s

/-- SETO OUT.blinkOff (R91; layout R56). -/
def execSetoBlinkOff (v : Scalar) (s : State) : Result := setOut .blinkOff v s

/-- SETO OUT.rumbleLow (R91; layout R56). -/
def execSetoRumbleLow (v : Scalar) (s : State) : Result := setOut .rumbleLow v s

/-- SETO OUT.rumbleHigh (R91; layout R56). -/
def execSetoRumbleHigh (v : Scalar) (s : State) : Result := setOut .rumbleHigh v s

/-- SETO OUT.pwLStickX (R91; layout R57). -/
def execSetoPwLStickX (v : Scalar) (s : State) : Result := setOut .pwLStickX v s

/-- SETO OUT.pwLStickY (R91; layout R57). -/
def execSetoPwLStickY (v : Scalar) (s : State) : Result := setOut .pwLStickY v s

/-- SETO OUT.pwRStickX (R91; layout R57). -/
def execSetoPwRStickX (v : Scalar) (s : State) : Result := setOut .pwRStickX v s

/-- SETO OUT.pwRStickY (R91; layout R57). -/
def execSetoPwRStickY (v : Scalar) (s : State) : Result := setOut .pwRStickY v s

/-- SETO OUT.pwL2Analog (R91; layout R57). -/
def execSetoPwL2Analog (v : Scalar) (s : State) : Result := setOut .pwL2Analog v s

/-- SETO OUT.pwR2Analog (R91; layout R57). -/
def execSetoPwR2Analog (v : Scalar) (s : State) : Result := setOut .pwR2Analog v s

/-- SETO OUT.pwLTpadX (R91; layout R57). -/
def execSetoPwLTpadX (v : Scalar) (s : State) : Result := setOut .pwLTpadX v s

/-- SETO OUT.pwLTpadY (R91; layout R57). -/
def execSetoPwLTpadY (v : Scalar) (s : State) : Result := setOut .pwLTpadY v s

/-- SETO OUT.pwRTpadX (R91; layout R57). -/
def execSetoPwRTpadX (v : Scalar) (s : State) : Result := setOut .pwRTpadX v s

/-- SETO OUT.pwRTpadY (R91; layout R57). -/
def execSetoPwRTpadY (v : Scalar) (s : State) : Result := setOut .pwRTpadY v s

/-- SETO OUT.pwTiltX (R91; layout R57). -/
def execSetoPwTiltX (v : Scalar) (s : State) : Result := setOut .pwTiltX v s

/-- SETO OUT.pwTiltY (R91; layout R57). -/
def execSetoPwTiltY (v : Scalar) (s : State) : Result := setOut .pwTiltY v s

/-- SETO OUT.stDPadUp (R91; layout R58). -/
def execSetoStDPadUp (v : Scalar) (s : State) : Result := setOut .stDPadUp v s

/-- SETO OUT.stDPadRight (R91; layout R58). -/
def execSetoStDPadRight (v : Scalar) (s : State) : Result := setOut .stDPadRight v s

/-- SETO OUT.stDPadDown (R91; layout R58). -/
def execSetoStDPadDown (v : Scalar) (s : State) : Result := setOut .stDPadDown v s

/-- SETO OUT.stDPadLeft (R91; layout R58). -/
def execSetoStDPadLeft (v : Scalar) (s : State) : Result := setOut .stDPadLeft v s

/-- SETO OUT.stSquare (R91; layout R58). -/
def execSetoStSquare (v : Scalar) (s : State) : Result := setOut .stSquare v s

/-- SETO OUT.stCross (R91; layout R58). -/
def execSetoStCross (v : Scalar) (s : State) : Result := setOut .stCross v s

/-- SETO OUT.stCircle (R91; layout R58). -/
def execSetoStCircle (v : Scalar) (s : State) : Result := setOut .stCircle v s

/-- SETO OUT.stTriangle (R91; layout R58). -/
def execSetoStTriangle (v : Scalar) (s : State) : Result := setOut .stTriangle v s

/-- SETO OUT.stL1 (R91; layout R58). -/
def execSetoStL1 (v : Scalar) (s : State) : Result := setOut .stL1 v s

/-- SETO OUT.stR1 (R91; layout R58). -/
def execSetoStR1 (v : Scalar) (s : State) : Result := setOut .stR1 v s

/-- SETO OUT.stL2 (R91; layout R58). -/
def execSetoStL2 (v : Scalar) (s : State) : Result := setOut .stL2 v s

/-- SETO OUT.stR2 (R91; layout R58). -/
def execSetoStR2 (v : Scalar) (s : State) : Result := setOut .stR2 v s

/-- SETO OUT.stL3 (R91; layout R58). -/
def execSetoStL3 (v : Scalar) (s : State) : Result := setOut .stL3 v s

/-- SETO OUT.stR3 (R91; layout R58). -/
def execSetoStR3 (v : Scalar) (s : State) : Result := setOut .stR3 v s

/-- SETO OUT.stShare (R91; layout R58). -/
def execSetoStShare (v : Scalar) (s : State) : Result := setOut .stShare v s

/-- SETO OUT.stOptions (R91; layout R58). -/
def execSetoStOptions (v : Scalar) (s : State) : Result := setOut .stOptions v s

/-- SETO OUT.stPs (R91; layout R58). -/
def execSetoStPs (v : Scalar) (s : State) : Result := setOut .stPs v s

/-- SETO OUT.stTpadPress (R91; layout R58). -/
def execSetoStTpadPress (v : Scalar) (s : State) : Result := setOut .stTpadPress v s

end Sys2Proof.Machine
end

