-- ==== Sys2Proof/Machine/Transaction.lean ====
section
/-! DEFINITION. EXEC and the sequencer that carries it on (41_transaction.md). -/

namespace Sys2Proof.Machine

/-- EXEC: acceptance and the select step (R110, R112). The other 98 steps of R111 are the sequencer's, one a step of the
machine, because the board and the host act between them (92_eei_decisions.md D13). -/
def execExec (s : State) : Result := .next (accept 0 selectStep s)

/-- The sequencer waits for a transport that has no answer: phase XFER, no fault, no byte to come (60_exceptions.md
R153). -/
def awaitsTransport (s : State) : Bool := s.phase = .xfer && !s.fault && s.board.isEmpty

/-- One step of the block while the host presents nothing: the transitions of 41_transaction.md R125. Where the table has
none (IDLE without a request, FAULT = 1, an exchange not yet answered) nothing changes. -/
def sequencerMove (s : State) : Result :=
  if s.fault then .next s
  else match s.phase with
    | .idle => .next s
    | .xfer =>
      if s.idx.toNat < Config.xferCount then
        match s.board with
        | [] => .next s
        | r :: rest => .next (exchangeStep r { s with board := rest })
      else .fault .sequencerOffTable
    | .desel => .next (deselectStep s)
    | .decode => .next (decodeStep s)

end Sys2Proof.Machine
end

