-- ==== Sys2Proof/Machine/Dispatch.lean ====
section
/-! DEFINITION. The dispatch: one arm per constructor of `Instr`, each one direct call of that instruction's meaning. -/

namespace Sys2Proof.Machine

def exec (i : Instr) (s : State) : Host.Outcome State Fault Refusal :=
  match i with
  | .getoOvrLed => Sys2Proof.Machine.execGetoOvrLed s
  | .getoOvrRumbleLow => Sys2Proof.Machine.execGetoOvrRumbleLow s
  | .getoOvrRumbleHigh => Sys2Proof.Machine.execGetoOvrRumbleHigh s
  | .getoOvrLStickX => Sys2Proof.Machine.execGetoOvrLStickX s
  | .getoOvrLStickY => Sys2Proof.Machine.execGetoOvrLStickY s
  | .getoOvrRStickX => Sys2Proof.Machine.execGetoOvrRStickX s
  | .getoOvrRStickY => Sys2Proof.Machine.execGetoOvrRStickY s
  | .getoOvrL2Analog => Sys2Proof.Machine.execGetoOvrL2Analog s
  | .getoOvrR2Analog => Sys2Proof.Machine.execGetoOvrR2Analog s
  | .getoOvrLTpadX => Sys2Proof.Machine.execGetoOvrLTpadX s
  | .getoOvrLTpadY => Sys2Proof.Machine.execGetoOvrLTpadY s
  | .getoOvrRTpadX => Sys2Proof.Machine.execGetoOvrRTpadX s
  | .getoOvrRTpadY => Sys2Proof.Machine.execGetoOvrRTpadY s
  | .getoOvrTiltX => Sys2Proof.Machine.execGetoOvrTiltX s
  | .getoOvrTiltY => Sys2Proof.Machine.execGetoOvrTiltY s
  | .getoOvrDPadUp => Sys2Proof.Machine.execGetoOvrDPadUp s
  | .getoOvrDPadRight => Sys2Proof.Machine.execGetoOvrDPadRight s
  | .getoOvrDPadDown => Sys2Proof.Machine.execGetoOvrDPadDown s
  | .getoOvrDPadLeft => Sys2Proof.Machine.execGetoOvrDPadLeft s
  | .getoOvrSquare => Sys2Proof.Machine.execGetoOvrSquare s
  | .getoOvrCross => Sys2Proof.Machine.execGetoOvrCross s
  | .getoOvrCircle => Sys2Proof.Machine.execGetoOvrCircle s
  | .getoOvrTriangle => Sys2Proof.Machine.execGetoOvrTriangle s
  | .getoOvrL1 => Sys2Proof.Machine.execGetoOvrL1 s
  | .getoOvrR1 => Sys2Proof.Machine.execGetoOvrR1 s
  | .getoOvrL2 => Sys2Proof.Machine.execGetoOvrL2 s
  | .getoOvrR2 => Sys2Proof.Machine.execGetoOvrR2 s
  | .getoOvrL3 => Sys2Proof.Machine.execGetoOvrL3 s
  | .getoOvrR3 => Sys2Proof.Machine.execGetoOvrR3 s
  | .getoOvrShare => Sys2Proof.Machine.execGetoOvrShare s
  | .getoOvrOptions => Sys2Proof.Machine.execGetoOvrOptions s
  | .getoOvrPs => Sys2Proof.Machine.execGetoOvrPs s
  | .getoOvrTpadPress => Sys2Proof.Machine.execGetoOvrTpadPress s
  | .getoLedRed => Sys2Proof.Machine.execGetoLedRed s
  | .getoLedGreen => Sys2Proof.Machine.execGetoLedGreen s
  | .getoLedBlue => Sys2Proof.Machine.execGetoLedBlue s
  | .getoBlinkOn => Sys2Proof.Machine.execGetoBlinkOn s
  | .getoBlinkOff => Sys2Proof.Machine.execGetoBlinkOff s
  | .getoRumbleLow => Sys2Proof.Machine.execGetoRumbleLow s
  | .getoRumbleHigh => Sys2Proof.Machine.execGetoRumbleHigh s
  | .getoPwLStickX => Sys2Proof.Machine.execGetoPwLStickX s
  | .getoPwLStickY => Sys2Proof.Machine.execGetoPwLStickY s
  | .getoPwRStickX => Sys2Proof.Machine.execGetoPwRStickX s
  | .getoPwRStickY => Sys2Proof.Machine.execGetoPwRStickY s
  | .getoPwL2Analog => Sys2Proof.Machine.execGetoPwL2Analog s
  | .getoPwR2Analog => Sys2Proof.Machine.execGetoPwR2Analog s
  | .getoPwLTpadX => Sys2Proof.Machine.execGetoPwLTpadX s
  | .getoPwLTpadY => Sys2Proof.Machine.execGetoPwLTpadY s
  | .getoPwRTpadX => Sys2Proof.Machine.execGetoPwRTpadX s
  | .getoPwRTpadY => Sys2Proof.Machine.execGetoPwRTpadY s
  | .getoPwTiltX => Sys2Proof.Machine.execGetoPwTiltX s
  | .getoPwTiltY => Sys2Proof.Machine.execGetoPwTiltY s
  | .getoStDPadUp => Sys2Proof.Machine.execGetoStDPadUp s
  | .getoStDPadRight => Sys2Proof.Machine.execGetoStDPadRight s
  | .getoStDPadDown => Sys2Proof.Machine.execGetoStDPadDown s
  | .getoStDPadLeft => Sys2Proof.Machine.execGetoStDPadLeft s
  | .getoStSquare => Sys2Proof.Machine.execGetoStSquare s
  | .getoStCross => Sys2Proof.Machine.execGetoStCross s
  | .getoStCircle => Sys2Proof.Machine.execGetoStCircle s
  | .getoStTriangle => Sys2Proof.Machine.execGetoStTriangle s
  | .getoStL1 => Sys2Proof.Machine.execGetoStL1 s
  | .getoStR1 => Sys2Proof.Machine.execGetoStR1 s
  | .getoStL2 => Sys2Proof.Machine.execGetoStL2 s
  | .getoStR2 => Sys2Proof.Machine.execGetoStR2 s
  | .getoStL3 => Sys2Proof.Machine.execGetoStL3 s
  | .getoStR3 => Sys2Proof.Machine.execGetoStR3 s
  | .getoStShare => Sys2Proof.Machine.execGetoStShare s
  | .getoStOptions => Sys2Proof.Machine.execGetoStOptions s
  | .getoStPs => Sys2Proof.Machine.execGetoStPs s
  | .getoStTpadPress => Sys2Proof.Machine.execGetoStTpadPress s
  | .setoOvrLed v => Sys2Proof.Machine.execSetoOvrLed v s
  | .setoOvrRumbleLow v => Sys2Proof.Machine.execSetoOvrRumbleLow v s
  | .setoOvrRumbleHigh v => Sys2Proof.Machine.execSetoOvrRumbleHigh v s
  | .setoOvrLStickX v => Sys2Proof.Machine.execSetoOvrLStickX v s
  | .setoOvrLStickY v => Sys2Proof.Machine.execSetoOvrLStickY v s
  | .setoOvrRStickX v => Sys2Proof.Machine.execSetoOvrRStickX v s
  | .setoOvrRStickY v => Sys2Proof.Machine.execSetoOvrRStickY v s
  | .setoOvrL2Analog v => Sys2Proof.Machine.execSetoOvrL2Analog v s
  | .setoOvrR2Analog v => Sys2Proof.Machine.execSetoOvrR2Analog v s
  | .setoOvrLTpadX v => Sys2Proof.Machine.execSetoOvrLTpadX v s
  | .setoOvrLTpadY v => Sys2Proof.Machine.execSetoOvrLTpadY v s
  | .setoOvrRTpadX v => Sys2Proof.Machine.execSetoOvrRTpadX v s
  | .setoOvrRTpadY v => Sys2Proof.Machine.execSetoOvrRTpadY v s
  | .setoOvrTiltX v => Sys2Proof.Machine.execSetoOvrTiltX v s
  | .setoOvrTiltY v => Sys2Proof.Machine.execSetoOvrTiltY v s
  | .setoOvrDPadUp v => Sys2Proof.Machine.execSetoOvrDPadUp v s
  | .setoOvrDPadRight v => Sys2Proof.Machine.execSetoOvrDPadRight v s
  | .setoOvrDPadDown v => Sys2Proof.Machine.execSetoOvrDPadDown v s
  | .setoOvrDPadLeft v => Sys2Proof.Machine.execSetoOvrDPadLeft v s
  | .setoOvrSquare v => Sys2Proof.Machine.execSetoOvrSquare v s
  | .setoOvrCross v => Sys2Proof.Machine.execSetoOvrCross v s
  | .setoOvrCircle v => Sys2Proof.Machine.execSetoOvrCircle v s
  | .setoOvrTriangle v => Sys2Proof.Machine.execSetoOvrTriangle v s
  | .setoOvrL1 v => Sys2Proof.Machine.execSetoOvrL1 v s
  | .setoOvrR1 v => Sys2Proof.Machine.execSetoOvrR1 v s
  | .setoOvrL2 v => Sys2Proof.Machine.execSetoOvrL2 v s
  | .setoOvrR2 v => Sys2Proof.Machine.execSetoOvrR2 v s
  | .setoOvrL3 v => Sys2Proof.Machine.execSetoOvrL3 v s
  | .setoOvrR3 v => Sys2Proof.Machine.execSetoOvrR3 v s
  | .setoOvrShare v => Sys2Proof.Machine.execSetoOvrShare v s
  | .setoOvrOptions v => Sys2Proof.Machine.execSetoOvrOptions v s
  | .setoOvrPs v => Sys2Proof.Machine.execSetoOvrPs v s
  | .setoOvrTpadPress v => Sys2Proof.Machine.execSetoOvrTpadPress v s
  | .setoLedRed v => Sys2Proof.Machine.execSetoLedRed v s
  | .setoLedGreen v => Sys2Proof.Machine.execSetoLedGreen v s
  | .setoLedBlue v => Sys2Proof.Machine.execSetoLedBlue v s
  | .setoBlinkOn v => Sys2Proof.Machine.execSetoBlinkOn v s
  | .setoBlinkOff v => Sys2Proof.Machine.execSetoBlinkOff v s
  | .setoRumbleLow v => Sys2Proof.Machine.execSetoRumbleLow v s
  | .setoRumbleHigh v => Sys2Proof.Machine.execSetoRumbleHigh v s
  | .setoPwLStickX v => Sys2Proof.Machine.execSetoPwLStickX v s
  | .setoPwLStickY v => Sys2Proof.Machine.execSetoPwLStickY v s
  | .setoPwRStickX v => Sys2Proof.Machine.execSetoPwRStickX v s
  | .setoPwRStickY v => Sys2Proof.Machine.execSetoPwRStickY v s
  | .setoPwL2Analog v => Sys2Proof.Machine.execSetoPwL2Analog v s
  | .setoPwR2Analog v => Sys2Proof.Machine.execSetoPwR2Analog v s
  | .setoPwLTpadX v => Sys2Proof.Machine.execSetoPwLTpadX v s
  | .setoPwLTpadY v => Sys2Proof.Machine.execSetoPwLTpadY v s
  | .setoPwRTpadX v => Sys2Proof.Machine.execSetoPwRTpadX v s
  | .setoPwRTpadY v => Sys2Proof.Machine.execSetoPwRTpadY v s
  | .setoPwTiltX v => Sys2Proof.Machine.execSetoPwTiltX v s
  | .setoPwTiltY v => Sys2Proof.Machine.execSetoPwTiltY v s
  | .setoStDPadUp v => Sys2Proof.Machine.execSetoStDPadUp v s
  | .setoStDPadRight v => Sys2Proof.Machine.execSetoStDPadRight v s
  | .setoStDPadDown v => Sys2Proof.Machine.execSetoStDPadDown v s
  | .setoStDPadLeft v => Sys2Proof.Machine.execSetoStDPadLeft v s
  | .setoStSquare v => Sys2Proof.Machine.execSetoStSquare v s
  | .setoStCross v => Sys2Proof.Machine.execSetoStCross v s
  | .setoStCircle v => Sys2Proof.Machine.execSetoStCircle v s
  | .setoStTriangle v => Sys2Proof.Machine.execSetoStTriangle v s
  | .setoStL1 v => Sys2Proof.Machine.execSetoStL1 v s
  | .setoStR1 v => Sys2Proof.Machine.execSetoStR1 v s
  | .setoStL2 v => Sys2Proof.Machine.execSetoStL2 v s
  | .setoStR2 v => Sys2Proof.Machine.execSetoStR2 v s
  | .setoStL3 v => Sys2Proof.Machine.execSetoStL3 v s
  | .setoStR3 v => Sys2Proof.Machine.execSetoStR3 v s
  | .setoStShare v => Sys2Proof.Machine.execSetoStShare v s
  | .setoStOptions v => Sys2Proof.Machine.execSetoStOptions v s
  | .setoStPs v => Sys2Proof.Machine.execSetoStPs v s
  | .setoStTpadPress v => Sys2Proof.Machine.execSetoStTpadPress v s
  | .getiReportId t f => Sys2Proof.Machine.execGetiReportId t f s
  | .getiLStickX t f => Sys2Proof.Machine.execGetiLStickX t f s
  | .getiLStickY t f => Sys2Proof.Machine.execGetiLStickY t f s
  | .getiRStickX t f => Sys2Proof.Machine.execGetiRStickX t f s
  | .getiRStickY t f => Sys2Proof.Machine.execGetiRStickY t f s
  | .getiDPadUp t f => Sys2Proof.Machine.execGetiDPadUp t f s
  | .getiDPadRight t f => Sys2Proof.Machine.execGetiDPadRight t f s
  | .getiDPadDown t f => Sys2Proof.Machine.execGetiDPadDown t f s
  | .getiDPadLeft t f => Sys2Proof.Machine.execGetiDPadLeft t f s
  | .getiSquare t f => Sys2Proof.Machine.execGetiSquare t f s
  | .getiCross t f => Sys2Proof.Machine.execGetiCross t f s
  | .getiCircle t f => Sys2Proof.Machine.execGetiCircle t f s
  | .getiTriangle t f => Sys2Proof.Machine.execGetiTriangle t f s
  | .getiL1 t f => Sys2Proof.Machine.execGetiL1 t f s
  | .getiR1 t f => Sys2Proof.Machine.execGetiR1 t f s
  | .getiL2 t f => Sys2Proof.Machine.execGetiL2 t f s
  | .getiR2 t f => Sys2Proof.Machine.execGetiR2 t f s
  | .getiL3 t f => Sys2Proof.Machine.execGetiL3 t f s
  | .getiR3 t f => Sys2Proof.Machine.execGetiR3 t f s
  | .getiShare t f => Sys2Proof.Machine.execGetiShare t f s
  | .getiOptions t f => Sys2Proof.Machine.execGetiOptions t f s
  | .getiPs t f => Sys2Proof.Machine.execGetiPs t f s
  | .getiTpadPress t f => Sys2Proof.Machine.execGetiTpadPress t f s
  | .getiCounter t f => Sys2Proof.Machine.execGetiCounter t f s
  | .getiL2Analog t f => Sys2Proof.Machine.execGetiL2Analog t f s
  | .getiR2Analog t f => Sys2Proof.Machine.execGetiR2Analog t f s
  | .getiGyroX t f => Sys2Proof.Machine.execGetiGyroX t f s
  | .getiGyroY t f => Sys2Proof.Machine.execGetiGyroY t f s
  | .getiGyroZ t f => Sys2Proof.Machine.execGetiGyroZ t f s
  | .getiAccelX t f => Sys2Proof.Machine.execGetiAccelX t f s
  | .getiAccelY t f => Sys2Proof.Machine.execGetiAccelY t f s
  | .getiAccelZ t f => Sys2Proof.Machine.execGetiAccelZ t f s
  | .getiBattery t f => Sys2Proof.Machine.execGetiBattery t f s
  | .getiUsbPresent t f => Sys2Proof.Machine.execGetiUsbPresent t f s
  | .getiTpadPacketCount t f => Sys2Proof.Machine.execGetiTpadPacketCount t f s
  | .getiTpadCounter t f => Sys2Proof.Machine.execGetiTpadCounter t f s
  | .getiTouchId t f => Sys2Proof.Machine.execGetiTouchId t f s
  | .getiNoContact t f => Sys2Proof.Machine.execGetiNoContact t f s
  | .getiTouchX t f => Sys2Proof.Machine.execGetiTouchX t f s
  | .getiTouchY t f => Sys2Proof.Machine.execGetiTouchY t f s
  | .getiEchoLStickX t f => Sys2Proof.Machine.execGetiEchoLStickX t f s
  | .getiEchoLStickY t f => Sys2Proof.Machine.execGetiEchoLStickY t f s
  | .getiEchoRStickX t f => Sys2Proof.Machine.execGetiEchoRStickX t f s
  | .getiEchoRStickY t f => Sys2Proof.Machine.execGetiEchoRStickY t f s
  | .getiEchoL2Analog t f => Sys2Proof.Machine.execGetiEchoL2Analog t f s
  | .getiEchoR2Analog t f => Sys2Proof.Machine.execGetiEchoR2Analog t f s
  | .getiEchoLTpadX t f => Sys2Proof.Machine.execGetiEchoLTpadX t f s
  | .getiEchoLTpadY t f => Sys2Proof.Machine.execGetiEchoLTpadY t f s
  | .getiEchoRTpadX t f => Sys2Proof.Machine.execGetiEchoRTpadX t f s
  | .getiEchoRTpadY t f => Sys2Proof.Machine.execGetiEchoRTpadY t f s
  | .getiEchoTiltX t f => Sys2Proof.Machine.execGetiEchoTiltX t f s
  | .getiEchoTiltY t f => Sys2Proof.Machine.execGetiEchoTiltY t f s
  | .getiEchoBtnDPadUp t f => Sys2Proof.Machine.execGetiEchoBtnDPadUp t f s
  | .getiEchoBtnDPadRight t f => Sys2Proof.Machine.execGetiEchoBtnDPadRight t f s
  | .getiEchoBtnDPadDown t f => Sys2Proof.Machine.execGetiEchoBtnDPadDown t f s
  | .getiEchoBtnDPadLeft t f => Sys2Proof.Machine.execGetiEchoBtnDPadLeft t f s
  | .getiEchoBtnSquare t f => Sys2Proof.Machine.execGetiEchoBtnSquare t f s
  | .getiEchoBtnCross t f => Sys2Proof.Machine.execGetiEchoBtnCross t f s
  | .getiEchoBtnCircle t f => Sys2Proof.Machine.execGetiEchoBtnCircle t f s
  | .getiEchoBtnTriangle t f => Sys2Proof.Machine.execGetiEchoBtnTriangle t f s
  | .getiEchoBtnL1 t f => Sys2Proof.Machine.execGetiEchoBtnL1 t f s
  | .getiEchoBtnR1 t f => Sys2Proof.Machine.execGetiEchoBtnR1 t f s
  | .getiEchoBtnL2 t f => Sys2Proof.Machine.execGetiEchoBtnL2 t f s
  | .getiEchoBtnR2 t f => Sys2Proof.Machine.execGetiEchoBtnR2 t f s
  | .getiEchoBtnL3 t f => Sys2Proof.Machine.execGetiEchoBtnL3 t f s
  | .getiEchoBtnR3 t f => Sys2Proof.Machine.execGetiEchoBtnR3 t f s
  | .getiEchoBtnShare t f => Sys2Proof.Machine.execGetiEchoBtnShare t f s
  | .getiEchoBtnOptions t f => Sys2Proof.Machine.execGetiEchoBtnOptions t f s
  | .getiEchoBtnPs t f => Sys2Proof.Machine.execGetiEchoBtnPs t f s
  | .getiEchoBtnTpadPress t f => Sys2Proof.Machine.execGetiEchoBtnTpadPress t f s
  | .setiReportId t f v => Sys2Proof.Machine.execSetiReportId t f v s
  | .setiLStickX t f v => Sys2Proof.Machine.execSetiLStickX t f v s
  | .setiLStickY t f v => Sys2Proof.Machine.execSetiLStickY t f v s
  | .setiRStickX t f v => Sys2Proof.Machine.execSetiRStickX t f v s
  | .setiRStickY t f v => Sys2Proof.Machine.execSetiRStickY t f v s
  | .setiDPadUp t f v => Sys2Proof.Machine.execSetiDPadUp t f v s
  | .setiDPadRight t f v => Sys2Proof.Machine.execSetiDPadRight t f v s
  | .setiDPadDown t f v => Sys2Proof.Machine.execSetiDPadDown t f v s
  | .setiDPadLeft t f v => Sys2Proof.Machine.execSetiDPadLeft t f v s
  | .setiSquare t f v => Sys2Proof.Machine.execSetiSquare t f v s
  | .setiCross t f v => Sys2Proof.Machine.execSetiCross t f v s
  | .setiCircle t f v => Sys2Proof.Machine.execSetiCircle t f v s
  | .setiTriangle t f v => Sys2Proof.Machine.execSetiTriangle t f v s
  | .setiL1 t f v => Sys2Proof.Machine.execSetiL1 t f v s
  | .setiR1 t f v => Sys2Proof.Machine.execSetiR1 t f v s
  | .setiL2 t f v => Sys2Proof.Machine.execSetiL2 t f v s
  | .setiR2 t f v => Sys2Proof.Machine.execSetiR2 t f v s
  | .setiL3 t f v => Sys2Proof.Machine.execSetiL3 t f v s
  | .setiR3 t f v => Sys2Proof.Machine.execSetiR3 t f v s
  | .setiShare t f v => Sys2Proof.Machine.execSetiShare t f v s
  | .setiOptions t f v => Sys2Proof.Machine.execSetiOptions t f v s
  | .setiPs t f v => Sys2Proof.Machine.execSetiPs t f v s
  | .setiTpadPress t f v => Sys2Proof.Machine.execSetiTpadPress t f v s
  | .setiCounter t f v => Sys2Proof.Machine.execSetiCounter t f v s
  | .setiL2Analog t f v => Sys2Proof.Machine.execSetiL2Analog t f v s
  | .setiR2Analog t f v => Sys2Proof.Machine.execSetiR2Analog t f v s
  | .setiGyroX t f v => Sys2Proof.Machine.execSetiGyroX t f v s
  | .setiGyroY t f v => Sys2Proof.Machine.execSetiGyroY t f v s
  | .setiGyroZ t f v => Sys2Proof.Machine.execSetiGyroZ t f v s
  | .setiAccelX t f v => Sys2Proof.Machine.execSetiAccelX t f v s
  | .setiAccelY t f v => Sys2Proof.Machine.execSetiAccelY t f v s
  | .setiAccelZ t f v => Sys2Proof.Machine.execSetiAccelZ t f v s
  | .setiBattery t f v => Sys2Proof.Machine.execSetiBattery t f v s
  | .setiUsbPresent t f v => Sys2Proof.Machine.execSetiUsbPresent t f v s
  | .setiTpadPacketCount t f v => Sys2Proof.Machine.execSetiTpadPacketCount t f v s
  | .setiTpadCounter t f v => Sys2Proof.Machine.execSetiTpadCounter t f v s
  | .setiTouchId t f v => Sys2Proof.Machine.execSetiTouchId t f v s
  | .setiNoContact t f v => Sys2Proof.Machine.execSetiNoContact t f v s
  | .setiTouchX t f v => Sys2Proof.Machine.execSetiTouchX t f v s
  | .setiTouchY t f v => Sys2Proof.Machine.execSetiTouchY t f v s
  | .setiEchoLStickX t f v => Sys2Proof.Machine.execSetiEchoLStickX t f v s
  | .setiEchoLStickY t f v => Sys2Proof.Machine.execSetiEchoLStickY t f v s
  | .setiEchoRStickX t f v => Sys2Proof.Machine.execSetiEchoRStickX t f v s
  | .setiEchoRStickY t f v => Sys2Proof.Machine.execSetiEchoRStickY t f v s
  | .setiEchoL2Analog t f v => Sys2Proof.Machine.execSetiEchoL2Analog t f v s
  | .setiEchoR2Analog t f v => Sys2Proof.Machine.execSetiEchoR2Analog t f v s
  | .setiEchoLTpadX t f v => Sys2Proof.Machine.execSetiEchoLTpadX t f v s
  | .setiEchoLTpadY t f v => Sys2Proof.Machine.execSetiEchoLTpadY t f v s
  | .setiEchoRTpadX t f v => Sys2Proof.Machine.execSetiEchoRTpadX t f v s
  | .setiEchoRTpadY t f v => Sys2Proof.Machine.execSetiEchoRTpadY t f v s
  | .setiEchoTiltX t f v => Sys2Proof.Machine.execSetiEchoTiltX t f v s
  | .setiEchoTiltY t f v => Sys2Proof.Machine.execSetiEchoTiltY t f v s
  | .setiEchoBtnDPadUp t f v => Sys2Proof.Machine.execSetiEchoBtnDPadUp t f v s
  | .setiEchoBtnDPadRight t f v => Sys2Proof.Machine.execSetiEchoBtnDPadRight t f v s
  | .setiEchoBtnDPadDown t f v => Sys2Proof.Machine.execSetiEchoBtnDPadDown t f v s
  | .setiEchoBtnDPadLeft t f v => Sys2Proof.Machine.execSetiEchoBtnDPadLeft t f v s
  | .setiEchoBtnSquare t f v => Sys2Proof.Machine.execSetiEchoBtnSquare t f v s
  | .setiEchoBtnCross t f v => Sys2Proof.Machine.execSetiEchoBtnCross t f v s
  | .setiEchoBtnCircle t f v => Sys2Proof.Machine.execSetiEchoBtnCircle t f v s
  | .setiEchoBtnTriangle t f v => Sys2Proof.Machine.execSetiEchoBtnTriangle t f v s
  | .setiEchoBtnL1 t f v => Sys2Proof.Machine.execSetiEchoBtnL1 t f v s
  | .setiEchoBtnR1 t f v => Sys2Proof.Machine.execSetiEchoBtnR1 t f v s
  | .setiEchoBtnL2 t f v => Sys2Proof.Machine.execSetiEchoBtnL2 t f v s
  | .setiEchoBtnR2 t f v => Sys2Proof.Machine.execSetiEchoBtnR2 t f v s
  | .setiEchoBtnL3 t f v => Sys2Proof.Machine.execSetiEchoBtnL3 t f v s
  | .setiEchoBtnR3 t f v => Sys2Proof.Machine.execSetiEchoBtnR3 t f v s
  | .setiEchoBtnShare t f v => Sys2Proof.Machine.execSetiEchoBtnShare t f v s
  | .setiEchoBtnOptions t f v => Sys2Proof.Machine.execSetiEchoBtnOptions t f v s
  | .setiEchoBtnPs t f v => Sys2Proof.Machine.execSetiEchoBtnPs t f v s
  | .setiEchoBtnTpadPress t f v => Sys2Proof.Machine.execSetiEchoBtnTpadPress t f v s
  | .rdo => Sys2Proof.Machine.execRdo s
  | .wro b => Sys2Proof.Machine.execWro b s
  | .rdi => Sys2Proof.Machine.execRdi s
  | .wri b => Sys2Proof.Machine.execWri b s
  | .setind r g b on off => Sys2Proof.Machine.execSetind r g b on off s
  | .exec => Sys2Proof.Machine.execExec s
  | .rst => Sys2Proof.Machine.execRst s
  | .reservedOp0 low => Sys2Proof.Machine.execReservedOp0 low s
  | .reservedOpC low => Sys2Proof.Machine.execReservedOpC low s
  | .reservedOpD low => Sys2Proof.Machine.execReservedOpD low s
  | .reservedOpE low => Sys2Proof.Machine.execReservedOpE low s
  | .reservedOpF low => Sys2Proof.Machine.execReservedOpF low s

end Sys2Proof.Machine
end

