-- ==== Sys2Proof/Machine/Serve.lean ====
section
/-! DEFINITION. One step of the machine: take what the host presents, serve it, or let the sequencer move. -/

namespace Sys2Proof.Machine

/-- Serve a request: run the instruction it decodes to, or take the fault of the name under which the decoder rejects it
(30_encoding.md R86 to R88; 60_exceptions.md R144). -/
def serve (r : Request) (s : State) : Result :=
  match decode r with
  | .ok i => exec i s
  | .error e => .next (rejectRequest e (responseLength (opOf r.word)) s)

/-- One step. A request presented in this step is served in it, whatever the phase (10_state.md R24, 60_exceptions.md
R143); otherwise the sequencer moves (41_transaction.md R125). With nothing to come from the host and no answer to come
from the transport, a waiting sequencer has no next state (60_exceptions.md R153). Log entries 2, 4. -/
def runStep (s : State) : Result :=
  match s.host with
  | some r :: rest => serve r { s with host := rest }
  | none :: rest => sequencerMove { s with host := rest }
  | [] => if awaitsTransport s then .fault .transportSilent else sequencerMove s

end Sys2Proof.Machine
end

