-- ==== Sys2Proof/Machine/Step.lean ====
section
/-! DEFINITION. The step function, and where it fetches an instruction. -/

namespace Sys2Proof.Machine

/-- One step of the machine. -/
def step (s : State) : Host.Outcome State Fault Refusal := runStep s

/-- `s` with the request whose bits are `w` presented at the host port in the very next step. The block fetches nothing
by itself: an instruction is what the host presents (10_state.md R14, R24). Log entry 2. -/
def State.withFetchWord (s : State) (nbits w : Nat) : State :=
  { s with host := some (requestOfBits nbits w) :: s.host }

end Sys2Proof.Machine
end

