-- ==== Sys2Proof/Machine/View.lean ====
section
/-! DEFINITION. The field instances and reserved bits of both formats, and the two conversions UNPACK and PACK
(40_codec_access.md R100, R101; 30_encoding.md R85). -/

namespace Sys2Proof.Machine

/-- A field instance: bit address, width and type of a field at given indices. -/
structure Slot where
  addr : Nat
  width : Nat
  type : FieldType
  deriving DecidableEq, Repr

/-- The index pairs inside a field's extents, `T` outermost (30_encoding.md R78). -/
def rowIndices (r : FieldRow) : List (Nat × Nat) :=
  (List.range r.nT).flatMap fun t => (List.range r.nF).map fun f => (t, f)

/-- The instances of a field (30_encoding.md R78). -/
def rowSlots (r : FieldRow) : List Slot :=
  (rowIndices r).map fun tf => ⟨fieldAddr r (BitVec.ofNat 2 tf.1) (BitVec.ofNat 2 tf.2), r.width, r.type⟩

/-- The 70 field instances of format OUT, in FID order. -/
def outSlots : List Slot := outFields.flatMap fun x => rowSlots (outRow x)

/-- The 92 field instances of format IN, in FID order, a field's instances by `T` and then by `F`. -/
def inSlots : List Slot := inFields.flatMap fun x => rowSlots (inRow x)

/-- `k` bit addresses from `a` on. -/
def bitsFrom (a k : Nat) : List Nat := (List.range k).map (a + ·)

/-- The 13 reserved bit addresses of format OUT (30_encoding.md R59): byte 4 bits 7:1, byte 38 bits 7:2. -/
def outReserved : List Nat := bitsFrom 33 7 ++ bitsFrom 306 6

/-- The 153 reserved bit addresses of format IN (30_encoding.md R85): bytes 0..7, 18..20, 33..37, byte 38 bits 7:5,
bytes 39..40, byte 95 bits 7:2. -/
def inReserved : List Nat :=
  bitsFrom 0 64 ++ bitsFrom 144 24 ++ bitsFrom 264 40 ++ bitsFrom 309 3 ++ bitsFrom 312 16 ++ bitsFrom 762 6

/-- The typed view of a packet (R100): the value of every field instance in the order of the slots, and the reserved
bits in bit-address order. -/
structure View where
  values : List FieldValue
  resv : List Bool
  deriving DecidableEq, Repr

/-- UNPACK over given slots and reserved addresses (R100). The d-pad decode is not applied. -/
def unpack {n : Nat} (slots : List Slot) (resv : List Nat) (p : Packet n) : View where
  values := slots.map fun x => typedValue x.type (bitRead p x.addr x.width)
  resv := resv.map (bitAt p)

/-- The raw bits of a typed value: the converse of `typedValue`. -/
def rawValue : FieldValue → Scalar
  | .bool b => if b then 1#16 else 0#16
  | .unsigned n => BitVec.ofNat 16 n
  | .signed z => BitVec.ofInt 16 z

/-- Bits are written one by one at given addresses. -/
def writeBits {n : Nat} (p : Packet n) : List Nat → List Bool → Packet n
  | a :: as, b :: bs => writeBits (setBit p a b) as bs
  | _, _ => p

/-- Field values are written one by one into given slots. -/
def writeSlots {n : Nat} (p : Packet n) : List Slot → List FieldValue → Packet n
  | x :: xs, v :: vs => writeSlots (bitWrite p x.addr x.width (rawValue v)) xs vs
  | _, _ => p

/-- PACK over given slots and reserved addresses (R101): the reserved bits over zeros, then every field. -/
def pack {n : Nat} (slots : List Slot) (resv : List Nat) (v : View) : Packet n :=
  writeSlots (writeBits zeroPacket resv v.resv) slots v.values

/-- `UNPACK_OUT` (R100). -/
def unpackOut (p : OutPacket) : View := unpack outSlots outReserved p

/-- `UNPACK_IN` (R100). -/
def unpackIn (p : InPacket) : View := unpack inSlots inReserved p

/-- `PACK_OUT` (R101). -/
def packOut (v : View) : OutPacket := pack outSlots outReserved v

/-- `PACK_IN` (R101). -/
def packIn (v : View) : InPacket := pack inSlots inReserved v

/-- A typed value has the slot's type and is in its range (30_encoding.md R50, R76, R77). -/
def valueInRange (x : Slot) : FieldValue → Bool
  | .bool _ => x.type = .bool
  | .unsigned n => x.type ≠ .bool && x.type ≠ .s16 && decide (n < 2 ^ x.width)
  | .signed z => x.type = .s16 && decide (-32768 ≤ z) && decide (z ≤ 32767)

/-- A view has one value in range for every slot, and one bit for every reserved address (R102(b)). -/
def viewInRange (slots : List Slot) (resv : List Nat) (v : View) : Bool :=
  v.values.length = slots.length && v.resv.length = resv.length &&
    (slots.zip v.values).all fun xv => valueInRange xv.1 xv.2

end Sys2Proof.Machine
end

