-- ==== Sys2Proof/Safety.lean ====
section
/-! DEFINITION. The terms in which claims speak of states and runs: when the block is ready for a request, what every
reachable state keeps, and what a run is. -/

namespace Sys2Proof.Machine

/-- The block accepts a request: FAULT = 0 and BUSY = 0 (60_exceptions.md R143). -/
def State.ready (s : State) : Prop := s.fault = false ∧ s.busy = false

/-- The level of the select line that a bus trace leaves, from a given level (00_scope.md R8). -/
def traceLevel (before : Bool) : List BusEvent → Bool
  | [] => before
  | .selAssert :: es => traceLevel true es
  | .selDeassert :: es => traceLevel false es
  | .xfer _ _ :: es => traceLevel before es

/-- A bus trace in which select is asserted only when it is not, released only when it is, and bytes are exchanged only
while it is asserted (41_transaction.md R115, R122). -/
def traceOrderly (level : Bool) : List BusEvent → Bool
  | [] => true
  | .selAssert :: es => !level && traceOrderly true es
  | .selDeassert :: es => level && traceOrderly false es
  | .xfer _ _ :: es => level && traceOrderly level es

/-- What every state reached from reset keeps:
BUSY is 1 exactly while PHASE is not IDLE (10_state.md R16); IDX is in 0..95 while PHASE = XFER (R14); SEL is asserted
exactly through the exchanges and up to the deselect step (41_transaction.md R112, R115); FCODE is 0 exactly while
FAULT = 0 and is one of the five codes otherwise (60_exceptions.md R140); a block that is inside a transaction has not
answered yet unless it has faulted (41_transaction.md R126); an error response holds no information (30_encoding.md R83);
the bus trace is orderly and ends at the level of SEL (41_transaction.md R122). -/
structure State.inv (s : State) : Prop where
  busy_iff : s.busy = true ↔ s.phase ≠ .idle
  idx_le : s.phase = .xfer → s.idx.toNat ≤ 95
  sel_iff : s.sel = true ↔ s.phase = .xfer ∨ s.phase = .desel
  fcode_zero : s.fault = false → s.fcode = 0#3
  fcode_cause : s.fault = true → ∃ c, s.fcode = faultCode c
  no_answer_yet : s.busy = true → s.fault = false → s.rsp = none
  error_zero : ∀ r, s.rsp = some r → r.err = true → ∀ b ∈ r.data, b = 0#8
  trace_level : traceLevel false s.trace = s.sel
  trace_orderly : traceOrderly false s.trace = true

/-- `k` steps of the machine. -/
def run (k : Nat) (s : State) : Host.Outcome State Fault Refusal := Host.Core.run Sys2Proof.core k s

/-- The host presents the request `r` in the next step, and `rest` after it. -/
def State.presents (s : State) (r : Request) (rest : List (Option Request)) : Prop := s.host = some r :: rest

/-- The host presents nothing in the next `k` steps. -/
def quiet (k : Nat) (host : List (Option Request)) : Prop := ∀ r ∈ host.take k, r = none

/-- A successful response carrying `d` (30_encoding.md R83). -/
def okResponse (d : List Byte) : Option Response := some ⟨false, d⟩

/-- An error response of `k` bytes, all zeros (30_encoding.md R83). -/
def errorResponse (k : Nat) : Option Response := some ⟨true, List.replicate k 0#8⟩

/-- `s` after taking a fault: the cause recorded, an error response of `k` bytes, and nothing else (60_exceptions.md
R146). -/
def State.faulted (s : State) (c : FaultCause) (k : Nat) : State :=
  { s with fault := true, fcode := faultCode c, rsp := errorResponse k }

/-- The byte of position `i` on the wire (41_transaction.md R121). -/
def wireByte (p : OutPacket) (i : Nat) : Byte := if i ≤ 38 then byteAt p i else 0xCD#8

/-- The bus trace of one transaction (41_transaction.md R122). -/
def transactionTrace (p : OutPacket) (answers : List Byte) : List BusEvent :=
  [.selAssert] ++ answers.mapIdx (fun i r => .xfer (wireByte p i) r) ++ [.selDeassert]

/-- The width of the field of format OUT with this FID, from the tables of 30_encoding.md R55 to R58. -/
def outWidth (fid : Nat) : Nat :=
  if fid ≤ 0x20 then 1 else if fid ≤ 0x27 then 8 else if fid ≤ 0x33 then 16 else 1

/-- The width of the field of format IN with this FID, from the tables of 30_encoding.md R61 to R75. -/
def inWidth (fid : Nat) : Nat :=
  if fid ≤ 0x04 then 8 else if fid ≤ 0x16 then 1 else if fid = 0x17 then 6 else if fid ≤ 0x19 then 8
  else if fid ≤ 0x1F then 16 else if fid = 0x20 then 4 else if fid = 0x21 then 1 else if fid ≤ 0x23 then 8
  else if fid = 0x24 then 7 else if fid = 0x25 then 1 else if fid ≤ 0x27 then 12 else if fid ≤ 0x33 then 16 else 1

/-- The index extents of the field of format IN with this FID (30_encoding.md R78). -/
def inExtents (fid : Nat) : Nat × Nat :=
  if fid = 0x23 then (3, 1) else if 0x24 ≤ fid ∧ fid ≤ 0x27 then (3, 2) else (1, 1)

/-- The checks (3) to (6) of 60_exceptions.md R144 on a request, read off the bits of its word and its payload: the cause
of the first that applies. -/
def requestFault (r : Request) : Option FaultCause :=
  let op := (opOf r.word).toNat
  let fid := (fidOf r.word).toNat
  let t := (subRecordOf r.word).toNat
  let f := (fingerOf r.word).toNat
  let extents := if op ≤ 2 then (1, 1) else inExtents fid
  let width := if op = 2 then outWidth fid else inWidth fid
  if op = 0 ∨ 12 ≤ op then some .illegalRequest
  else if 5 ≤ op ∧ lowOf r.word ≠ 0#12 then some .illegalRequest
  else if r.payload.length ≠ payloadLength (opOf r.word) then some .illegalRequest
  else if op ≤ 4 ∧ 0x45 < fid then some .unknownField
  else if op ≤ 4 ∧ (extents.1 ≤ t ∨ extents.2 ≤ f) then some .indexRange
  else if (op = 2 ∨ op = 4) ∧ 2 ^ width ≤ (scalarOfBytes r.payload).toNat then some .valueRange
  else none

/-- The value is that of a field of this type whose bits are the `width` bits of `p` from bit address `a` on
(30_encoding.md R76, R77): a `bool` is its bit, an `s16` the two's-complement number with these bits, a `uN` the number
below `2^width` with these bits. -/
def FieldValue.isTypedRead {n : Nat} (type : FieldType) (p : Packet n) (a width : Nat) : FieldValue → Prop
  | .bool b => type = .bool ∧ b = bitAt p a
  | .signed z => type = .s16 ∧ -32768 ≤ z ∧ z ≤ 32767 ∧ ∀ k, k < 16 → (BitVec.ofInt 16 z).getLsbD k = bitAt p (a + k)
  | .unsigned m => type ≠ .bool ∧ type ≠ .s16 ∧ m < 2 ^ width ∧ ∀ k, k < width → m.testBit k = bitAt p (a + k)

/-- The operations that may write the Output Packet (10_state.md R10). -/
def writesOut : Form → Prop
  | .seto _ _ | .wro _ | .setind _ _ _ _ _ | .rst => True
  | _ => False

/-- The operations that may write the Input Packet in the step that serves them (10_state.md R13). -/
def writesIn : Form → Prop
  | .seti _ _ _ _ | .wri _ | .rst => True
  | _ => False

/-- The request word of RST, with no payload (70_reset_and_hazards.md R160). -/
def rstRequest : Request := ⟨0xB000#16, []⟩

end Sys2Proof.Machine
end

