-- ==== Sys2Proof/Certificates/Slice0/Obligations.lean ====
section
/-! DEFINITION. The statements about the model, each from the rules of spec/ named in its docstring. A statement that
speaks of an instruction `i` with `i.form = .geto x` (or `.seto`, `.geti`, `.seti`) speaks of ALL SEVENTY constructors
of that operation: `Instr.form` maps `getoOvrLed` to `.geto .ovrLed`, and so on, row by row of the opcode table. Each
next state is given as an update of the old one, which is the frame: a field not named is unchanged. -/

open Sys2Proof Sys2Proof.Machine

/-! ## Reset -/

/-- 70_reset_and_hazards.md R161: every register after power-on, for any content `inp` of the Input Packet; the bus
trace is empty; `State.reset` is such a state (which content it has is the model's choice, log entry 5, and is not
stated). -/
def Obligations.PowerOnValues : Prop :=
  (∀ inp : InPacket, let s := State.afterPowerOn inp
    (∀ i, i < 39 → byteAt s.outpkt i = 0#8) ∧ (∀ x, bitRead s.outpkt (outRow x).a0 (outRow x).width = 0#16) ∧
    s.inpkt = inp ∧ s.phase = .idle ∧ s.idx = 0#7 ∧ s.busy = false ∧ s.fault = false ∧ s.fcode = 0#3 ∧
    s.sel = false ∧ s.trace = []) ∧
  ∃ inp, State.reset = State.afterPowerOn inp

/-- Every power-on state keeps the invariant. -/
def Obligations.PowerOnKeepsInvariant : Prop := (∀ inp, (State.afterPowerOn inp).inv) ∧ State.reset.inv

/-- 70_reset_and_hazards.md R160, R162, R163: RST is performed in every state, whatever FAULT and BUSY are; it leaves the
registers as power-on does, with some content `p` in the Input Packet about which nothing is said; SelDeassert joins the
bus trace if SEL was 1. Completion of the constructor `rst`. -/
def Obligations.RstRestoresPowerOn : Prop :=
  ∀ s : State, ∃ (p : InPacket) (n : Nat),
    exec .rst s = .next { s with
      outpkt := zeroPacket, inpkt := p, phase := .idle, idx := 0#7, busy := false, fault := false, fcode := 0#3,
      sel := false, rsp := okResponse [], trace := s.trace ++ (if s.sel then [BusEvent.selDeassert] else []),
      freeCount := n }

/-! ## Requests, decoding, encoding -/

/-- A step serves the request the host presents: the instruction it decodes to runs on the state whose `host` has lost
that entry; so does one stored by `withFetchWord`. (`host` is the model's input, log entry 2.) -/
def Obligations.StepRunsDecodedInstruction : Prop :=
  (∀ (s : State) (r : Request) (rest : List (Option Request)) (i : Instr),
    s.presents r rest → decode r = .ok i → step s = exec i { s with host := rest }) ∧
  (∀ (s : State) (nbits w : Nat) (i : Instr),
    decode (requestOfBits nbits w) = .ok i → step (s.withFetchWord nbits w) = exec i s)

/-- Decoding an encoded instruction gives it back: every constructor, every value of every operand, the ill-formed ones
too (30_encoding.md R81, R82, R84). -/
def Obligations.DecodeEncodeAgree : Prop := ∀ i : Instr, decode (encode i) = .ok i

/-- A request that decodes is the encoding of its instruction: no two requests decode to one instruction, and no bit of a
word or of a payload is dropped. -/
def Obligations.EncodeDecodeAgree : Prop := ∀ (r : Request) (i : Instr), decode r = .ok i → encode i = r

/-- Request words that the spec's own examples spell out. -/
def Obligations.SpecWordsDecode : Prop :=
  decode ⟨0x1028, []⟩ = .ok .getoPwLStickX ∧
  decode ⟨0x2014, [0x01, 0x00]⟩ = .ok (.setoOvrCross 1) ∧
  decode ⟨0x3626, []⟩ = .ok (.getiTouchX 2 1) ∧
  decode ⟨0x4626, [0xBC, 0x0A]⟩ = .ok (.setiTouchX 2 1 0xABC) ∧
  decode ⟨0x5000, []⟩ = .ok .rdo ∧
  decode ⟨0x9000, [0xFF, 0x80, 0x00, 0x0A, 0x14]⟩ = .ok (.setind 255 128 0 10 20) ∧
  decode ⟨0xA000, []⟩ = .ok .exec ∧
  decode ⟨0xB000, []⟩ = .ok .rst ∧
  decode ⟨0xD123, []⟩ = .ok (.reservedOpD 0x123) ∧
  decode ⟨0x1046, []⟩ = .error .unknownField

/-- 60_exceptions.md R143, R144: what becomes of every request but RST, for every word and every payload: refused while
FAULT = 1; else BusyViolation while BUSY = 1; else the first of IllegalRequest, UnknownField, IndexRange, ValueRange that
applies (`requestFault` reads them off the bits of the request), with nothing else changed; else no fault. A payload of
the wrong length, which only a model that takes a list of bytes can express, is met by IllegalRequest on every operation
and on RST's code as well (log entry 13). An error response is as wide as the operation's (30_encoding.md R83); how wide
it is for a reserved code is not said. -/
def Obligations.FaultPriority : Prop :=
  ∀ (s : State) (r : Request) (rest : List (Option Request)), s.presents r rest → r ≠ rstRequest →
    ∃ (s' : State) (k : Nat), step s = .next s' ∧
      (1 ≤ (opOf r.word).toNat → (opOf r.word).toNat ≤ 0xB → k = responseLength (opOf r.word)) ∧
      if s.fault then s' = { s with host := rest, rsp := errorResponse k }
      else if s.busy then s' = State.faulted { s with host := rest } .busyViolation k
      else match requestFault r with
        | some c => s' = State.faulted { s with host := rest } c k
        | none => s'.fault = false ∧ ∀ x, s'.rsp = some x → x.err = false

/-- 30_encoding.md R86: a reserved operation code, with any low twelve bits and any payload, raises IllegalRequest and
changes nothing else; how many zero bytes the error response has is not said (log entry 8). Completion of the
constructors `reservedOp0`, `reservedOpC`, `reservedOpD`, `reservedOpE`, `reservedOpF`. -/
def Obligations.ReservedCodesFault : Prop :=
  (∀ (i : Instr) (o : ReservedOp) (low : BitVec 12) (s : State), i.form = .reserved o low → s.ready →
    ∃ k, exec i s = .next (s.faulted .illegalRequest k)) ∧
  (∀ (s : State) (r : Request) (rest : List (Option Request)), s.presents r rest → s.ready →
    (opOf r.word).toNat = 0 ∨ 0xC ≤ (opOf r.word).toNat →
    ∃ k, step s = .next (State.faulted { s with host := rest } .illegalRequest k))

/-- 30_encoding.md R87: a GETO, SETO, GETI or SETI whose FID is above 0x45 raises UnknownField, whatever its T, F and
value, and changes nothing else. -/
def Obligations.UnknownFieldFaults : Prop :=
  ∀ (s : State) (r : Request) (rest : List (Option Request)), s.presents r rest → s.ready →
    1 ≤ (opOf r.word).toNat → (opOf r.word).toNat ≤ 4 → 0x46 ≤ (fidOf r.word).toNat →
    r.payload.length = payloadLength (opOf r.word) →
    step s = .next (State.faulted { s with host := rest } .unknownField (responseLength (opOf r.word)))

/-- 30_encoding.md R88: for the operations without a field (codes 5 to B, RST's among them) a request word with a
non-zero bit among 11:0 raises IllegalRequest and changes nothing else. -/
def Obligations.ReservedBitsFault : Prop :=
  ∀ (s : State) (r : Request) (rest : List (Option Request)), s.presents r rest → s.ready →
    5 ≤ (opOf r.word).toNat → (opOf r.word).toNat ≤ 0xB → lowOf r.word ≠ 0#12 →
    step s = .next (State.faulted { s with host := rest } .illegalRequest (responseLength (opOf r.word)))

/-! ## The layout -/

/-- 30_encoding.md R84, R87: in either space a FID names a field exactly if it is at most 0x45, a field is found under its
own FID, and the FIDs are 0, 1, 2, … in declaration order. -/
def Obligations.FieldIdentifiersDense : Prop :=
  (∀ fid, (outLookup fid).isSome ↔ fid.toNat ≤ 0x45) ∧ (∀ fid, (inLookup fid).isSome ↔ fid.toNat ≤ 0x45) ∧
  (∀ x, outLookup (outRow x).fid = some x) ∧ (∀ x, inLookup (inRow x).fid = some x) ∧
  (∀ k, k < 70 → (outFields[k]?.map fun x => (outRow x).fid.toNat) = some k) ∧
  (∀ k, k < 70 → (inFields[k]?.map fun x => (inRow x).fid.toNat) = some k)

/-- 30_encoding.md R55 to R58: flag `n` is bit `n`; the 8-bit values are bytes 5..11; pulse width `k` is 16 bits from byte
12 + 2k; the state of button `j` is bit 288 + j. -/
def Obligations.OutLayoutByIndex : Prop :=
  ∀ x : OutField, let r := outRow x; let n := r.fid.toNat
    r.nT = 1 ∧ r.nF = 1 ∧
    (n ≤ 0x20 → r.a0 = n ∧ r.width = 1 ∧ r.type = .bool) ∧
    (0x21 ≤ n → n ≤ 0x27 → r.a0 = 8 * (5 + (n - 0x21)) ∧ r.width = 8 ∧ r.type = .u8) ∧
    (0x28 ≤ n → n ≤ 0x33 → r.a0 = 8 * (12 + 2 * (n - 0x28)) ∧ r.width = 16 ∧ r.type = .u16) ∧
    (0x34 ≤ n → r.a0 = 288 + (n - 0x34) ∧ r.width = 1 ∧ r.type = .bool)

/-- 30_encoding.md R61 to R66, R68, R70 to R75: the same for every field of format IN. The runs of like fields: sticks at
bytes 9..12, the sixteen buttons of bytes 13 and 14 and the two of byte 15 bit by bit, the rolling counter above them,
triggers at bytes 16, 17, inertial values from byte 21, echo pulse width `k` from byte 69 + 2k, echo button `j` at bit
744 + j. The others, each under its name: the battery level and the USB flag of byte 38, the packet count at byte 41, the
counter of sub-record `t` at byte 42 + 9t, and the four parts of finger entry `f` of sub-record `t`, at bits 0, 7, 8 and
20 of the entry that starts at byte 43 + 9t + 4f. -/
def Obligations.InLayoutByIndex : Prop :=
  ∀ x : InField, let r := inRow x; let n := r.fid.toNat
    (n ≤ 0x04 → r.a0 = 8 * (8 + n) ∧ r.width = 8 ∧ r.type = .u8) ∧
    (0x05 ≤ n → n ≤ 0x16 → r.a0 = 104 + (n - 0x05) ∧ r.width = 1 ∧ r.type = .bool) ∧
    (n = 0x17 → r.a0 = 122 ∧ r.width = 6 ∧ r.type = .u6) ∧
    (0x18 ≤ n → n ≤ 0x19 → r.a0 = 8 * (16 + (n - 0x18)) ∧ r.width = 8 ∧ r.type = .u8) ∧
    (0x1A ≤ n → n ≤ 0x1F → r.a0 = 8 * (21 + 2 * (n - 0x1A)) ∧ r.width = 16 ∧ r.type = .s16) ∧
    (n = 0x20 → x = .battery ∧ r.a0 = 304 ∧ r.width = 4 ∧ r.type = .u4) ∧
    (n = 0x21 → x = .usbPresent ∧ r.a0 = 308 ∧ r.width = 1 ∧ r.type = .bool) ∧
    (n = 0x22 → x = .tpadPacketCount ∧ r.a0 = 328 ∧ r.width = 8 ∧ r.type = .u8) ∧
    (n = 0x23 → x = .tpadCounter ∧ r.width = 8 ∧ r.type = .u8 ∧
      ∀ t f : BitVec 2, t.toNat < 3 → f.toNat < 1 → fieldAddr r t f = 8 * (42 + 9 * t.toNat)) ∧
    (n = 0x24 → x = .touchId ∧ r.width = 7 ∧ r.type = .u7 ∧
      ∀ t f : BitVec 2, t.toNat < 3 → f.toNat < 2 →
        fieldAddr r t f = 8 * (43 + 9 * t.toNat + 4 * f.toNat)) ∧
    (n = 0x25 → x = .noContact ∧ r.width = 1 ∧ r.type = .bool ∧
      ∀ t f : BitVec 2, t.toNat < 3 → f.toNat < 2 →
        fieldAddr r t f = 8 * (43 + 9 * t.toNat + 4 * f.toNat) + 7) ∧
    (n = 0x26 → x = .touchX ∧ r.width = 12 ∧ r.type = .u12 ∧
      ∀ t f : BitVec 2, t.toNat < 3 → f.toNat < 2 →
        fieldAddr r t f = 8 * (43 + 9 * t.toNat + 4 * f.toNat) + 8) ∧
    (n = 0x27 → x = .touchY ∧ r.width = 12 ∧ r.type = .u12 ∧
      ∀ t f : BitVec 2, t.toNat < 3 → f.toNat < 2 →
        fieldAddr r t f = 8 * (43 + 9 * t.toNat + 4 * f.toNat) + 20) ∧
    (0x28 ≤ n → n ≤ 0x33 → r.a0 = 8 * (69 + 2 * (n - 0x28)) ∧ r.width = 16 ∧ r.type = .u16) ∧
    (0x34 ≤ n → r.a0 = 744 + (n - 0x34) ∧ r.width = 1 ∧ r.type = .bool)

/-- 30_encoding.md R50, R59, R85 and 40_codec_access.md R99: the 70 and 92 field instances do not overlap, and with the
13 and 153 reserved bits they cover each bit address of their packet exactly once. -/
def Obligations.FieldsPartitionPackets : Prop :=
  let covers := fun (a : Nat) (x : Slot) => decide (x.addr ≤ a ∧ a < x.addr + x.width)
  outSlots.length = 70 ∧ inSlots.length = 92 ∧ outReserved.length = 13 ∧ inReserved.length = 153 ∧
  (∀ a, a < 312 → outSlots.countP (covers a) + outReserved.count a = 1) ∧
  (∀ a, a < 768 → inSlots.countP (covers a) + inReserved.count a = 1)

/-- 20_memory.md R30: a 16-bit field stands at whole bytes and has the value `P[i] + 256 * P[i+1]`. -/
def Obligations.SixteenBitLittleEndian : Prop :=
  (∀ (p : OutPacket) (x : OutField), (outRow x).width = 16 → ∃ i, i + 1 < 39 ∧ (outRow x).a0 = 8 * i ∧
    (bitRead p (outRow x).a0 16).toNat = (byteAt p i).toNat + 256 * (byteAt p (i + 1)).toNat) ∧
  (∀ (p : InPacket) (x : InField), (inRow x).width = 16 → ∃ i, i + 1 < 96 ∧ (inRow x).a0 = 8 * i ∧
    (bitRead p (inRow x).a0 16).toNat = (byteAt p i).toNat + 256 * (byteAt p (i + 1)).toNat)

/-- 30_encoding.md R73: the four fields of a finger entry as slices of the 32-bit little-endian number at byte
43 + 9t + 4f, and as numbers made of its four bytes. -/
def Obligations.FingerEntrySlices : Prop :=
  ∀ (p : InPacket) (t f : BitVec 2), t.toNat < 3 → f.toNat < 2 →
    let b := 43 + 9 * t.toNat + 4 * f.toNat
    let w := memRead p b 4
    let byte := fun j => (byteAt p (b + j)).toNat
    let field := fun x : InField => (bitRead p (fieldAddr (inRow x) t f) (inRow x).width).toNat
    (field .touchId = w % 2 ^ 7 ∧ field .noContact = w / 2 ^ 7 % 2 ∧
      field .touchX = w / 2 ^ 8 % 2 ^ 12 ∧ field .touchY = w / 2 ^ 20 % 2 ^ 12) ∧
    field .touchId = byte 0 % 128 ∧ field .noContact = byte 0 / 128 ∧
    field .touchX = byte 1 + 256 * (byte 2 % 16) ∧ field .touchY = byte 2 / 16 + 16 * byte 3

/-- 30_encoding.md R76, R77: the six inertial fields, and they alone, have type s16, whose typed value is the
two's-complement number of the 16 bits; the typed value of a `bool` is true for 1 and false for 0, and that of every
other type is the unsigned number of the bits. -/
def Obligations.InertialFieldsSigned : Prop :=
  (∀ x : InField, (inRow x).type = .s16 ↔ 0x1A ≤ (inRow x).fid.toNat ∧ (inRow x).fid.toNat ≤ 0x1F) ∧
  (∀ x : OutField, (outRow x).type ≠ .s16) ∧
  (∀ v : Scalar, typedValue .s16 v = .signed v.toInt) ∧
  typedValue .bool 0 = .bool false ∧ typedValue .bool 1 = .bool true ∧
  (∀ (ty : FieldType) (v : Scalar), ty ≠ .bool → ty ≠ .s16 → typedValue ty v = .unsigned v.toNat)

/-! ## Field operations -/

/-- 40_codec_access.md R90, 30_encoding.md R76, 20_memory.md R34: GETO answers the field's bits, zero-extended to 16, and
changes nothing but the response. Completion of the seventy constructors `geto…`. -/
def Obligations.GetoReturnsField : Prop :=
  ∀ (i : Instr) (x : OutField) (s : State), i.form = .geto x → s.ready →
    ∃ v : Scalar, exec i s = .next { s with rsp := okResponse (scalarBytes v) } ∧
      ∀ k, v.getLsbD k = (decide (k < (outRow x).width) && bitAt s.outpkt ((outRow x).a0 + k))

/-- 40_codec_access.md R91, 20_memory.md R35: SETO writes the field's bits and no other bit of the Output Packet, and
changes nothing else but the response. Completion of the seventy constructors `seto…`. -/
def Obligations.SetoWritesField : Prop :=
  ∀ (i : Instr) (x : OutField) (v : Scalar) (s : State), i.form = .seto x v → s.ready →
    v.toNat < 2 ^ (outRow x).width →
    ∃ p : OutPacket, exec i s = .next { s with outpkt := p, rsp := okResponse [] } ∧
      ∀ a, bitAt p a = if (outRow x).a0 ≤ a ∧ a < (outRow x).a0 + (outRow x).width
        then v.getLsbD (a - (outRow x).a0) else bitAt s.outpkt a

/-- 40_codec_access.md R92: GETI with indices inside the field's extents answers the bits of the instance, zero-extended
to 16, and changes nothing but the response. Completion of the seventy constructors `geti…`. -/
def Obligations.GetiReturnsField : Prop :=
  ∀ (i : Instr) (x : InField) (t f : BitVec 2) (s : State), i.form = .geti x t f → s.ready →
    t.toNat < (inRow x).nT → f.toNat < (inRow x).nF →
    ∃ v : Scalar, exec i s = .next { s with rsp := okResponse (scalarBytes v) } ∧
      ∀ k, v.getLsbD k = (decide (k < (inRow x).width) &&
        bitAt s.inpkt ((inRow x).a0 + 72 * t.toNat + 32 * f.toNat + k))

/-- 40_codec_access.md R93: SETI with legal indices and a value that fits writes the bits of the instance and no other
bit of the Input Packet (the d-pad decode is not applied), and changes nothing else but the response. Completion of the
seventy constructors `seti…`. -/
def Obligations.SetiWritesField : Prop :=
  ∀ (i : Instr) (x : InField) (t f : BitVec 2) (v : Scalar) (s : State), i.form = .seti x t f v → s.ready →
    t.toNat < (inRow x).nT → f.toNat < (inRow x).nF → v.toNat < 2 ^ (inRow x).width →
    let a0 := (inRow x).a0 + 72 * t.toNat + 32 * f.toNat
    ∃ p : InPacket, exec i s = .next { s with inpkt := p, rsp := okResponse [] } ∧
      ∀ a, bitAt p a = if a0 ≤ a ∧ a < a0 + (inRow x).width then v.getLsbD (a - a0) else bitAt s.inpkt a

/-- 30_encoding.md R79: a value that does not fit the field raises ValueRange and writes nothing; a 16-bit field takes
every value. -/
def Obligations.OverwideValueFaults : Prop :=
  (∀ (i : Instr) (x : OutField) (v : Scalar) (s : State), i.form = .seto x v → s.ready →
    2 ^ (outRow x).width ≤ v.toNat → exec i s = .next (s.faulted .valueRange 0)) ∧
  (∀ (i : Instr) (x : InField) (t f : BitVec 2) (v : Scalar) (s : State), i.form = .seti x t f v → s.ready →
    t.toNat < (inRow x).nT → f.toNat < (inRow x).nF → 2 ^ (inRow x).width ≤ v.toNat →
    exec i s = .next (s.faulted .valueRange 0)) ∧
  (∀ v : Scalar, v.toNat < 2 ^ 16)

/-- 30_encoding.md R78: the extents of every field; an index outside them raises IndexRange and changes nothing else, on
GETI and SETI as on a GETO or SETO request whose T or F is not 0; the address of an instance. -/
def Obligations.IndexRangeFaults : Prop :=
  (∀ x : OutField, (outRow x).nT = 1 ∧ (outRow x).nF = 1) ∧
  (∀ x : InField, ((inRow x).nT, (inRow x).nF) =
    if x = .tpadCounter then (3, 1)
    else if x = .touchId ∨ x = .noContact ∨ x = .touchX ∨ x = .touchY then (3, 2) else (1, 1)) ∧
  (∀ (x : InField) (t f : BitVec 2), fieldAddr (inRow x) t f = (inRow x).a0 + 72 * t.toNat + 32 * f.toNat) ∧
  (∀ (i : Instr) (x : InField) (t f : BitVec 2) (s : State), i.form = .geti x t f → s.ready →
    (inRow x).nT ≤ t.toNat ∨ (inRow x).nF ≤ f.toNat → exec i s = .next (s.faulted .indexRange 2)) ∧
  (∀ (i : Instr) (x : InField) (t f : BitVec 2) (v : Scalar) (s : State), i.form = .seti x t f v → s.ready →
    (inRow x).nT ≤ t.toNat ∨ (inRow x).nF ≤ f.toNat → exec i s = .next (s.faulted .indexRange 0)) ∧
  (∀ (s : State) (t f : BitVec 2) (x : OutField) (rest : List (Option Request)), s.ready → t ≠ 0 ∨ f ≠ 0 →
    (s.presents ⟨wordOf 1 f t (outRow x).fid, []⟩ rest →
      step s = .next (State.faulted { s with host := rest } .indexRange 2)) ∧
    (∀ v, s.presents ⟨wordOf 2 f t (outRow x).fid, scalarBytes v⟩ rest →
      step s = .next (State.faulted { s with host := rest } .indexRange 0)))

/-- 40_codec_access.md R98: a successful set of a field instance and then a get of it answers the value set, for every
field of either format, every legal index and every value that fits. -/
def Obligations.SetThenGet : Prop :=
  (∀ (i j : Instr) (x : OutField) (v : Scalar) (s : State), i.form = .seto x v → j.form = .geto x → s.ready →
    v.toNat < 2 ^ (outRow x).width →
    ∃ t, exec i s = .next t ∧ exec j t = .next { t with rsp := okResponse (scalarBytes v) }) ∧
  (∀ (i j : Instr) (x : InField) (t f : BitVec 2) (v : Scalar) (s : State), i.form = .seti x t f v →
    j.form = .geti x t f → s.ready → t.toNat < (inRow x).nT → f.toNat < (inRow x).nF →
    v.toNat < 2 ^ (inRow x).width →
    ∃ u, exec i s = .next u ∧ exec j u = .next { u with rsp := okResponse (scalarBytes v) })

/-- 40_codec_access.md R99: a successful set leaves every other field instance of the same packet, every reserved bit of
it, and every bit of the other packet unchanged. -/
def Obligations.SetLeavesOtherFields : Prop :=
  (∀ (i : Instr) (x : OutField) (v : Scalar) (s u : State), i.form = .seto x v → s.ready →
    v.toNat < 2 ^ (outRow x).width → exec i s = .next u →
    (∀ y, y ≠ x → bitRead u.outpkt (outRow y).a0 (outRow y).width = bitRead s.outpkt (outRow y).a0 (outRow y).width) ∧
    (∀ a ∈ outReserved, bitAt u.outpkt a = bitAt s.outpkt a) ∧ u.inpkt = s.inpkt) ∧
  (∀ (i : Instr) (x : InField) (t f : BitVec 2) (v : Scalar) (s u : State), i.form = .seti x t f v → s.ready →
    t.toNat < (inRow x).nT → f.toNat < (inRow x).nF → v.toNat < 2 ^ (inRow x).width → exec i s = .next u →
    (∀ (y : InField) (t' f' : BitVec 2), t'.toNat < (inRow y).nT → f'.toNat < (inRow y).nF →
      (y, t', f') ≠ (x, t, f) →
      bitRead u.inpkt (fieldAddr (inRow y) t' f') (inRow y).width =
        bitRead s.inpkt (fieldAddr (inRow y) t' f') (inRow y).width) ∧
    (∀ a ∈ inReserved, bitAt u.inpkt a = bitAt s.inpkt a) ∧ u.outpkt = s.outpkt)

/-- 40_codec_access.md R103: at each of the six positions the four sets leave the bytes `05 E8 03 7D` there and every
other byte of the Input Packet as it was (the other entries and the three counters among them), and the four gets answer
5, 0, 1000, 2000. -/
def Obligations.TouchEntriesRoundTrip : Prop :=
  ∀ (t f : BitVec 2) (s : State), t.toNat < 3 → f.toNat < 2 → s.ready →
    ∃ s₁ s₂ s₃ u, exec (.setiTouchId t f 5) s = .next s₁ ∧ exec (.setiNoContact t f 0) s₁ = .next s₂ ∧
      exec (.setiTouchX t f 1000) s₂ = .next s₃ ∧ exec (.setiTouchY t f 2000) s₃ = .next u ∧
      (let b := 43 + 9 * t.toNat + 4 * f.toNat
       byteAt u.inpkt b = 0x05 ∧ byteAt u.inpkt (b + 1) = 0xE8 ∧ byteAt u.inpkt (b + 2) = 0x03 ∧
       byteAt u.inpkt (b + 3) = 0x7D ∧
       ∀ i, i < b ∨ b + 4 ≤ i → byteAt u.inpkt i = byteAt s.inpkt i) ∧
      exec (.getiTouchId t f) u = .next { u with rsp := okResponse (scalarBytes 5) } ∧
      exec (.getiNoContact t f) u = .next { u with rsp := okResponse (scalarBytes 0) } ∧
      exec (.getiTouchX t f) u = .next { u with rsp := okResponse (scalarBytes 1000) } ∧
      exec (.getiTouchY t f) u = .next { u with rsp := okResponse (scalarBytes 2000) }

/-- 20_memory.md R37: a get, a view, a set, a replace or a SETIND that succeeds, made again, leaves the same state and
gives the same answer. (EXEC and RST are the two operations this is not said of.) -/
def Obligations.RepeatedRequestChangesNothing : Prop :=
  ∀ (i : Instr) (s u : State), i ≠ .exec → i ≠ .rst → exec i s = .next u → u.fault = false → exec i u = .next u

/-! ## Raw operations, PACK and UNPACK -/

/-- 40_codec_access.md R94, R96: RDO and RDI answer all bytes of their packet, byte `i` in place `i`, and change nothing
but the response. Completion of the constructors `rdo`, `rdi`. -/
def Obligations.RawViewsReturnAllBytes : Prop :=
  ∀ s : State, s.ready →
    (∃ d : List Byte, d.length = 39 ∧ (∀ i, i < 39 → d[i]? = some (byteAt s.outpkt i)) ∧
      exec .rdo s = .next { s with rsp := okResponse d }) ∧
    (∃ d : List Byte, d.length = 96 ∧ (∀ i, i < 96 → d[i]? = some (byteAt s.inpkt i)) ∧
      exec .rdi s = .next { s with rsp := okResponse d })

/-- 40_codec_access.md R95, R97: WRO and WRI replace all bytes of their packet, reserved bits included, byte 13 of the
Input Packet verbatim, and change nothing else but the response. Completion of the constructors `wro`, `wri`. -/
def Obligations.RawReplacesWriteAllBytes : Prop :=
  ∀ s : State, s.ready →
    (∀ b : OutPacket, exec (.wro b) s = .next { s with outpkt := b, rsp := okResponse [] }) ∧
    (∀ b : InPacket, exec (.wri b) s = .next { s with inpkt := b, rsp := okResponse [] })

/-- 40_codec_access.md R102(c), from the port: a WRO or WRI request with payload `b`, then RDO or RDI, answers `b`. -/
def Obligations.RawRoundTrip : Prop :=
  ∀ (s : State) (b : List Byte) (rest : List (Option Request)), s.ready →
    (b.length = 39 → s.host = some ⟨0x6000, b⟩ :: some ⟨0x5000, []⟩ :: rest →
      ∃ u, run 2 s = .next u ∧ u.rsp = okResponse b) ∧
    (b.length = 96 → s.host = some ⟨0x8000, b⟩ :: some ⟨0x7000, []⟩ :: rest →
      ∃ u, run 2 s = .next u ∧ u.rsp = okResponse b)

/-- 40_codec_access.md R102(a): decoding a byte sequence into its typed view and encoding that gives the bytes back, for
every byte sequence of either packet. -/
def Obligations.PackUnpackIdentity : Prop :=
  (∀ b : OutPacket, packOut (unpackOut b) = b) ∧ (∀ b : InPacket, packIn (unpackIn b) = b)

/-- 40_codec_access.md R102(b): encoding a typed view whose values are in range and decoding that gives the view back. -/
def Obligations.UnpackPackIdentity : Prop :=
  (∀ v : View, viewInRange outSlots outReserved v = true → unpackOut (packOut v) = v) ∧
  (∀ v : View, viewInRange inSlots inReserved v = true → unpackIn (packIn v) = v)

/-- 40_codec_access.md R100: the typed view has, for every field instance, the typed `BitRead` of its bits (that of
`IN.dPadUp` is bit 104 as it stands: no d-pad decode), and the reserved bits, 13 and 153, in bit-address order. The values
stand in the order of `outSlots` and `inSlots`, whose entries are the field instances, each once: this order of a list
that renders the rule's record is the model's, and the statement does not say which it is. -/
def Obligations.UnpackReadsEveryField : Prop :=
  (∀ p : OutPacket, let v := unpackOut p
    (∀ x, ∃ (k : Nat) (u : FieldValue),
      outSlots[k]? = some ⟨(outRow x).a0, (outRow x).width, (outRow x).type⟩ ∧ v.values[k]? = some u ∧
      u.isTypedRead (outRow x).type p (outRow x).a0 (outRow x).width) ∧
    v.values.length = 70 ∧ outSlots.Nodup ∧ outSlots.length = 70 ∧ v.resv = outReserved.map (bitAt p)) ∧
  (∀ p : InPacket, let v := unpackIn p
    (∀ (x : InField) (t f : BitVec 2), t.toNat < (inRow x).nT → f.toNat < (inRow x).nF →
      ∃ (k : Nat) (u : FieldValue),
        inSlots[k]? = some ⟨fieldAddr (inRow x) t f, (inRow x).width, (inRow x).type⟩ ∧ v.values[k]? = some u ∧
        u.isTypedRead (inRow x).type p (fieldAddr (inRow x) t f) (inRow x).width) ∧
    v.values.length = 92 ∧ inSlots.Nodup ∧ inSlots.length = 92 ∧ v.resv = inReserved.map (bitAt p)) ∧
  (outReserved.length = 13 ∧ outReserved.Pairwise (· < ·) ∧
    ∀ a, a ∈ outReserved ↔ a < 312 ∧ ∀ y ∈ outSlots, ¬(y.addr ≤ a ∧ a < y.addr + y.width)) ∧
  (inReserved.length = 153 ∧ inReserved.Pairwise (· < ·) ∧
    ∀ a, a ∈ inReserved ↔ a < 768 ∧ ∀ y ∈ inSlots, ¬(y.addr ≤ a ∧ a < y.addr + y.width))

/-! ## The indicator operation -/

/-- 42_indicator.md R130, R131: SETIND writes bytes 5..9 of the Output Packet, no other byte of it (the flags of bytes
0..4 among them), and nothing else but the response. Completion of the constructor `setind`. -/
def Obligations.SetindWritesLedBytes : Prop :=
  ∀ (red green blue blinkOn blinkOff : Byte) (s : State), s.ready →
    ∃ p : OutPacket, exec (.setind red green blue blinkOn blinkOff) s =
        .next { s with outpkt := p, rsp := okResponse [] } ∧
      byteAt p 5 = red ∧ byteAt p 6 = green ∧ byteAt p 7 = blue ∧ byteAt p 8 = blinkOn ∧ byteAt p 9 = blinkOff ∧
      ∀ i, i < 5 ∨ 9 < i → byteAt p i = byteAt s.outpkt i

/-- 42_indicator.md R132: after SETIND the five GETO answer its operands, every other field of the Output Packet answers
what it did, and the operands stand at wire positions 5..9. -/
def Obligations.SetindThenGetFields : Prop :=
  ∀ (red green blue blinkOn blinkOff : Byte) (s : State), s.ready →
    ∃ u, exec (.setind red green blue blinkOn blinkOff) s = .next u ∧
      exec .getoLedRed u = .next { u with rsp := okResponse (scalarBytes (red.setWidth 16)) } ∧
      exec .getoLedGreen u = .next { u with rsp := okResponse (scalarBytes (green.setWidth 16)) } ∧
      exec .getoLedBlue u = .next { u with rsp := okResponse (scalarBytes (blue.setWidth 16)) } ∧
      exec .getoBlinkOn u = .next { u with rsp := okResponse (scalarBytes (blinkOn.setWidth 16)) } ∧
      exec .getoBlinkOff u = .next { u with rsp := okResponse (scalarBytes (blinkOff.setWidth 16)) } ∧
      (∀ x : OutField, x ≠ .ledRed → x ≠ .ledGreen → x ≠ .ledBlue → x ≠ .blinkOn → x ≠ .blinkOff →
        bitRead u.outpkt (outRow x).a0 (outRow x).width = bitRead s.outpkt (outRow x).a0 (outRow x).width) ∧
      txByte u 5 = red ∧ txByte u 6 = green ∧ txByte u 7 = blue ∧ txByte u 8 = blinkOn ∧ txByte u 9 = blinkOff

/-- 42_indicator.md R130: SETIND leaves the state that the five SETO of the LED fields leave one after the other. -/
def Obligations.SetindIsFiveSetos : Prop :=
  ∀ (red green blue blinkOn blinkOff : Byte) (s : State), s.ready →
    ∃ s₁ s₂ s₃ s₄ u, exec (.setoLedRed (red.setWidth 16)) s = .next s₁ ∧
      exec (.setoLedGreen (green.setWidth 16)) s₁ = .next s₂ ∧
      exec (.setoLedBlue (blue.setWidth 16)) s₂ = .next s₃ ∧
      exec (.setoBlinkOn (blinkOn.setWidth 16)) s₃ = .next s₄ ∧
      exec (.setoBlinkOff (blinkOff.setWidth 16)) s₄ = .next u ∧
      exec (.setind red green blue blinkOn blinkOff) s = .next u

/-! ## The transaction -/

/-- 41_transaction.md R112, R126: EXEC accepted is the select step: BUSY and SEL become 1, IDX 0, PHASE XFER, SelAssert
joins the bus trace, and nothing else changes. That the response outputs then show no response is the model's choice (log
entry 7). Completion of the constructor `exec`. -/
def Obligations.ExecSelects : Prop :=
  ∀ s : State, s.ready →
    exec .exec s = .next { s with
      busy := true, sel := true, idx := 0#7, phase := .xfer, rsp := none, trace := s.trace ++ [BusEvent.selAssert] }

/-- 41_transaction.md R113, R114: the exchange step at IDX = i transmits the wire byte of position i, captures the
answer into INPKT[i] and nowhere else, and advances. (What IDX holds after the last exchange is not said.) -/
def Obligations.ExchangeStepCaptures : Prop :=
  ∀ (s : State) (r : Byte) (more : List Byte), s.fault = false → s.phase = .xfer → s.idx.toNat ≤ 95 →
    s.board = r :: more → quiet 1 s.host →
    ∃ u : State, step s = .next { s with
        host := s.host.tail, board := more, inpkt := u.inpkt, phase := u.phase, idx := u.idx,
        trace := s.trace ++ [BusEvent.xfer (wireByte s.outpkt s.idx.toNat) r] } ∧
      (∀ i, i < 96 → byteAt u.inpkt i = if i = s.idx.toNat then r else byteAt s.inpkt i) ∧
      (s.idx.toNat < 95 → u.phase = .xfer ∧ u.idx.toNat = s.idx.toNat + 1) ∧
      (s.idx.toNat = 95 → u.phase = .desel)

/-- 41_transaction.md R115: the deselect step. -/
def Obligations.DeselectStepReleases : Prop :=
  ∀ s : State, s.fault = false → s.phase = .desel → quiet 1 s.host →
    step s = .next { s with
      host := s.host.tail, sel := false, phase := .decode, trace := s.trace ++ [BusEvent.selDeassert] }

/-- 41_transaction.md R116, R117: the decode step: the four low bits of INPKT[13] become the four directions of the old
code, bits 7:4 and every other byte stay, and EXEC completes with a response. -/
def Obligations.DecodeStepCompletes : Prop :=
  ∀ s : State, s.fault = false → s.phase = .decode → quiet 1 s.host →
    ∃ p : InPacket, step s = .next { s with
        host := s.host.tail, inpkt := p, phase := .idle, busy := false, rsp := okResponse [] } ∧
      (let c := (byteAt s.inpkt 13).toNat % 16
       (byteAt p 13).getLsbD 0 = decide (c = 7 ∨ c = 0 ∨ c = 1) ∧
       (byteAt p 13).getLsbD 1 = decide (c = 1 ∨ c = 2 ∨ c = 3) ∧
       (byteAt p 13).getLsbD 2 = decide (c = 3 ∨ c = 4 ∨ c = 5) ∧
       (byteAt p 13).getLsbD 3 = decide (c = 5 ∨ c = 6 ∨ c = 7)) ∧
      (byteAt p 13).extractLsb' 4 4 = (byteAt s.inpkt 13).extractLsb' 4 4 ∧
      ∀ i, i ≠ 13 → byteAt p i = byteAt s.inpkt i

/-- 41_transaction.md R118: the d-pad table, all sixteen rows. -/
def Obligations.DpadTable : Prop :=
  ∀ c : BitVec 4,
    ((dpadDecode c).getLsbD 0 = true ↔ c.toNat ∈ [7, 0, 1]) ∧ ((dpadDecode c).getLsbD 1 = true ↔ c.toNat ∈ [1, 2, 3]) ∧
    ((dpadDecode c).getLsbD 2 = true ↔ c.toNat ∈ [3, 4, 5]) ∧ ((dpadDecode c).getLsbD 3 = true ↔ c.toNat ∈ [5, 6, 7]) ∧
    [1, 3, 2, 6, 4, 12, 8, 9, 0, 0, 0, 0, 0, 0, 0, 0][c.toNat]? = some (dpadDecode c).toNat

/-- 41_transaction.md R119: the decoder is the identity on 2 and 4 only, maps 0 to 1 and that to 3 (so is not
idempotent), maps every code from 8 on to 0, and has the image 0, 1, 2, 3, 4, 6, 8, 9, 12. -/
def Obligations.DpadImage : Prop :=
  (∀ c : BitVec 4, dpadDecode c = c ↔ c = 2 ∨ c = 4) ∧
  dpadDecode 0 = 1 ∧ dpadDecode 1 = 3 ∧ dpadDecode (dpadDecode 0) = 3 ∧
  (∀ n : BitVec 4, (∃ c, dpadDecode c = n) ↔ n.toNat ∈ [0, 1, 2, 3, 4, 6, 8, 9, 12]) ∧
  (∀ c : BitVec 4, 8 ≤ c.toNat → dpadDecode c = 0)

/-- 41_transaction.md R110, R111, R113, R116, R117, R121, R122, R124: an accepted EXEC, with the host quiet and the transport answering
`answers`, completes in 99 steps for EVERY 96 answers: the bus trace gains the select, the 96 exchanges carrying the
Output Packet and then the padding, and the deselect; the Input Packet holds the answers, byte 13 with its low nibble
decoded; the Output Packet, FAULT and FCODE are unchanged. -/
def Obligations.TransactionCompletes : Prop :=
  ∀ (s : State) (rest : List (Option Request)) (answers more : List Byte), s.ready →
    s.presents ⟨0xA000, []⟩ rest → quiet 98 rest → answers.length = 96 → s.board = answers ++ more →
    ∃ u : State, run 99 s = .next { s with
        host := rest.drop 98, board := more, inpkt := u.inpkt, phase := .idle, idx := u.idx, busy := false,
        sel := false, rsp := okResponse [], trace := s.trace ++ transactionTrace s.outpkt answers } ∧
      (∀ i, i < 96 → i ≠ 13 → answers[i]? = some (byteAt u.inpkt i)) ∧
      answers[13]?.map (fun b => b.extractLsb' 4 4 ++ dpadDecode (b.extractLsb' 0 4)) = some (byteAt u.inpkt 13)

/-- 41_transaction.md R111, R115, R126: inside those 99 steps there is no response (log entry 7) and BUSY is 1 after each
of the first 98; SEL is 1 after each of the first 97 and 0 after the 98th; the Output Packet does not change. -/
def Obligations.TransactionBusyThroughout : Prop :=
  ∀ (s : State) (rest : List (Option Request)) (k : Nat), s.ready → s.presents ⟨0xA000, []⟩ rest → quiet 98 rest →
    96 ≤ s.board.length → 1 ≤ k → k ≤ 98 →
    ∃ u, run k s = .next u ∧ u.busy = true ∧ u.fault = false ∧ u.rsp = none ∧ u.sel = decide (k ≤ 97) ∧
      u.outpkt = s.outpkt

/-- 60_exceptions.md R153: a sequencer whose exchange is not answered stays where it is, FAULT 0; with nothing to come
from the host and no answer ever to come, the model has no next state (log entry 4: that stop is the model's rendering
of the hang). -/
def Obligations.UnansweredExchangeWaits : Prop :=
  ∀ s : State, s.fault = false → s.phase = .xfer → s.idx.toNat ≤ 95 → s.board = [] →
    (∀ rest, s.host = none :: rest → step s = .next { s with host := rest }) ∧
    (s.host = [] → step s = .fault .transportSilent)

/-- 10_state.md R25: the block asks for an exchange exactly in phase XFER with no fault recorded, and then transmits the
wire byte of position IDX. -/
def Obligations.TransmitRequest : Prop :=
  ∀ s : State, txRequest s =
    if s.phase = .xfer ∧ s.fault = false then some (wireByte s.outpkt s.idx.toNat) else none

/-! ## Faults and the whole machine -/

/-- 60_exceptions.md R147: while FAULT = 1 every request other than RST is answered with an error and zero data and
changes no state; a step without a request changes nothing either (R146; what the response outputs show after it is not
said). -/
def Obligations.FaultedBlockIsFrozen : Prop :=
  ∀ s : State, s.fault = true →
    (∀ r rest, s.presents r rest → r ≠ rstRequest →
      ∃ k, step s = .next { s with host := rest, rsp := errorResponse k }) ∧
    (quiet 1 s.host → ∃ o, step s = .next { s with host := s.host.tail, rsp := o })

/-- 60_exceptions.md R146: a step that records a fault serves a request and changes FAULT, FCODE and the response only:
both packets, PHASE, IDX, BUSY, SEL and the bus trace keep their values. -/
def Obligations.FaultEntryChangesNothingElse : Prop :=
  ∀ s u : State, step s = .next u → s.fault = false → u.fault = true →
    ∃ r rest c k, s.presents r rest ∧ u = State.faulted { s with host := rest } c k

/-- 60_exceptions.md R148: the only step that leaves FAULT = 1 is one that serves RST. -/
def Obligations.OnlyRstClearsFault : Prop :=
  ∀ s u : State, step s = .next u → s.fault = true → u.fault = false → ∃ rest, s.presents rstRequest rest

/-- 10_state.md R10: the only steps that change the Output Packet serve a SETO, WRO, SETIND or RST. -/
def Obligations.OutputPacketWriters : Prop :=
  ∀ s u : State, step s = .next u → u.outpkt ≠ s.outpkt →
    ∃ r rest i, s.presents r rest ∧ decode r = .ok i ∧ writesOut i.form

/-- 10_state.md R11, R13: the only steps that change the Input Packet serve a SETI, WRI or RST, or are the exchange or
decode step of a transaction. -/
def Obligations.InputPacketWriters : Prop :=
  ∀ s u : State, step s = .next u → u.inpkt ≠ s.inpkt →
    (∃ r rest i, s.presents r rest ∧ decode r = .ok i ∧ writesIn i.form) ∨
    (quiet 1 s.host ∧ s.fault = false ∧ (s.phase = .xfer ∨ s.phase = .decode))

/-- 41_transaction.md R125: the transitions of (PHASE, IDX) are those of the table: from a state that keeps the invariant,
a step leaves the pair alone, or is RST, or is the next transition of the sequencer. -/
def Obligations.SequencerTransitions : Prop :=
  ∀ s u : State, s.inv → step s = .next u →
    (u.phase = s.phase ∧ u.idx = s.idx) ∨
    (u.phase = .idle ∧ u.idx = 0#7 ∧ ∃ rest, s.presents rstRequest rest) ∨
    (s.fault = false ∧
      ((s.phase = .idle ∧ u.phase = .xfer ∧ u.idx = 0#7 ∧ ∃ rest, s.presents ⟨0xA000, []⟩ rest) ∨
       (quiet 1 s.host ∧
        ((s.phase = .xfer ∧ s.idx.toNat < 95 ∧ u.phase = .xfer ∧ u.idx.toNat = s.idx.toNat + 1) ∨
         (s.phase = .xfer ∧ s.idx.toNat = 95 ∧ u.phase = .desel) ∨
         (s.phase = .desel ∧ u.phase = .decode) ∨
         (s.phase = .decode ∧ u.phase = .idle)))))

/-- 10_state.md R22: the bus trace only grows, by at most one event a step. -/
def Obligations.BusTraceOnlyGrows : Prop :=
  ∀ s u : State, step s = .next u → ∃ es, u.trace = s.trace ++ es ∧ es.length ≤ 1

/-- From every state that keeps the invariant a step has a next state, but for the hang of 60_exceptions.md R153 when
neither the host nor the transport will ever do anything more (the stop is the model's, log entry 4). -/
def Obligations.StepStopsOnlyOnSilence : Prop :=
  ∀ s : State, s.inv →
    (∃ u, step s = .next u) ∨
    (step s = .fault .transportSilent ∧ s.phase = .xfer ∧ s.fault = false ∧ s.board = [] ∧ s.host = [])

/-- Every step keeps the invariant of `State.inv`: BUSY = 1 exactly while PHASE is not IDLE, IDX at most 95 in XFER, SEL
asserted exactly from the select step to the deselect step, FCODE one of the five codes exactly while FAULT = 1, no
response inside a transaction (log entry 7), zero data on an error, an orderly bus trace ending at the level of SEL. -/
def Obligations.StepKeepsInvariant : Prop := ∀ s u : State, s.inv → step s = .next u → u.inv
end

