-- ==== Sys2Proof/Laws/PerInstr.lean ====
section
/-! SUPPORT. Statements about each instruction as syntax, one lemma per constructor. -/

namespace Sys2Proof.Laws.FormRoundTrip

/-- An instruction is the instruction of its form. -/
def Statement (i : Instr) : Prop := Instr.ofForm i.form = i

theorem getoOvrLed : Statement .getoOvrLed := rfl
theorem getoOvrRumbleLow : Statement .getoOvrRumbleLow := rfl
theorem getoOvrRumbleHigh : Statement .getoOvrRumbleHigh := rfl
theorem getoOvrLStickX : Statement .getoOvrLStickX := rfl
theorem getoOvrLStickY : Statement .getoOvrLStickY := rfl
theorem getoOvrRStickX : Statement .getoOvrRStickX := rfl
theorem getoOvrRStickY : Statement .getoOvrRStickY := rfl
theorem getoOvrL2Analog : Statement .getoOvrL2Analog := rfl
theorem getoOvrR2Analog : Statement .getoOvrR2Analog := rfl
theorem getoOvrLTpadX : Statement .getoOvrLTpadX := rfl
theorem getoOvrLTpadY : Statement .getoOvrLTpadY := rfl
theorem getoOvrRTpadX : Statement .getoOvrRTpadX := rfl
theorem getoOvrRTpadY : Statement .getoOvrRTpadY := rfl
theorem getoOvrTiltX : Statement .getoOvrTiltX := rfl
theorem getoOvrTiltY : Statement .getoOvrTiltY := rfl
theorem getoOvrDPadUp : Statement .getoOvrDPadUp := rfl
theorem getoOvrDPadRight : Statement .getoOvrDPadRight := rfl
theorem getoOvrDPadDown : Statement .getoOvrDPadDown := rfl
theorem getoOvrDPadLeft : Statement .getoOvrDPadLeft := rfl
theorem getoOvrSquare : Statement .getoOvrSquare := rfl
theorem getoOvrCross : Statement .getoOvrCross := rfl
theorem getoOvrCircle : Statement .getoOvrCircle := rfl
theorem getoOvrTriangle : Statement .getoOvrTriangle := rfl
theorem getoOvrL1 : Statement .getoOvrL1 := rfl
theorem getoOvrR1 : Statement .getoOvrR1 := rfl
theorem getoOvrL2 : Statement .getoOvrL2 := rfl
theorem getoOvrR2 : Statement .getoOvrR2 := rfl
theorem getoOvrL3 : Statement .getoOvrL3 := rfl
theorem getoOvrR3 : Statement .getoOvrR3 := rfl
theorem getoOvrShare : Statement .getoOvrShare := rfl
theorem getoOvrOptions : Statement .getoOvrOptions := rfl
theorem getoOvrPs : Statement .getoOvrPs := rfl
theorem getoOvrTpadPress : Statement .getoOvrTpadPress := rfl
theorem getoLedRed : Statement .getoLedRed := rfl
theorem getoLedGreen : Statement .getoLedGreen := rfl
theorem getoLedBlue : Statement .getoLedBlue := rfl
theorem getoBlinkOn : Statement .getoBlinkOn := rfl
theorem getoBlinkOff : Statement .getoBlinkOff := rfl
theorem getoRumbleLow : Statement .getoRumbleLow := rfl
theorem getoRumbleHigh : Statement .getoRumbleHigh := rfl
theorem getoPwLStickX : Statement .getoPwLStickX := rfl
theorem getoPwLStickY : Statement .getoPwLStickY := rfl
theorem getoPwRStickX : Statement .getoPwRStickX := rfl
theorem getoPwRStickY : Statement .getoPwRStickY := rfl
theorem getoPwL2Analog : Statement .getoPwL2Analog := rfl
theorem getoPwR2Analog : Statement .getoPwR2Analog := rfl
theorem getoPwLTpadX : Statement .getoPwLTpadX := rfl
theorem getoPwLTpadY : Statement .getoPwLTpadY := rfl
theorem getoPwRTpadX : Statement .getoPwRTpadX := rfl
theorem getoPwRTpadY : Statement .getoPwRTpadY := rfl
theorem getoPwTiltX : Statement .getoPwTiltX := rfl
theorem getoPwTiltY : Statement .getoPwTiltY := rfl
theorem getoStDPadUp : Statement .getoStDPadUp := rfl
theorem getoStDPadRight : Statement .getoStDPadRight := rfl
theorem getoStDPadDown : Statement .getoStDPadDown := rfl
theorem getoStDPadLeft : Statement .getoStDPadLeft := rfl
theorem getoStSquare : Statement .getoStSquare := rfl
theorem getoStCross : Statement .getoStCross := rfl
theorem getoStCircle : Statement .getoStCircle := rfl
theorem getoStTriangle : Statement .getoStTriangle := rfl
theorem getoStL1 : Statement .getoStL1 := rfl
theorem getoStR1 : Statement .getoStR1 := rfl
theorem getoStL2 : Statement .getoStL2 := rfl
theorem getoStR2 : Statement .getoStR2 := rfl
theorem getoStL3 : Statement .getoStL3 := rfl
theorem getoStR3 : Statement .getoStR3 := rfl
theorem getoStShare : Statement .getoStShare := rfl
theorem getoStOptions : Statement .getoStOptions := rfl
theorem getoStPs : Statement .getoStPs := rfl
theorem getoStTpadPress : Statement .getoStTpadPress := rfl
theorem setoOvrLed : ∀ v, Statement (.setoOvrLed v) := fun _ => rfl
theorem setoOvrRumbleLow : ∀ v, Statement (.setoOvrRumbleLow v) := fun _ => rfl
theorem setoOvrRumbleHigh : ∀ v, Statement (.setoOvrRumbleHigh v) := fun _ => rfl
theorem setoOvrLStickX : ∀ v, Statement (.setoOvrLStickX v) := fun _ => rfl
theorem setoOvrLStickY : ∀ v, Statement (.setoOvrLStickY v) := fun _ => rfl
theorem setoOvrRStickX : ∀ v, Statement (.setoOvrRStickX v) := fun _ => rfl
theorem setoOvrRStickY : ∀ v, Statement (.setoOvrRStickY v) := fun _ => rfl
theorem setoOvrL2Analog : ∀ v, Statement (.setoOvrL2Analog v) := fun _ => rfl
theorem setoOvrR2Analog : ∀ v, Statement (.setoOvrR2Analog v) := fun _ => rfl
theorem setoOvrLTpadX : ∀ v, Statement (.setoOvrLTpadX v) := fun _ => rfl
theorem setoOvrLTpadY : ∀ v, Statement (.setoOvrLTpadY v) := fun _ => rfl
theorem setoOvrRTpadX : ∀ v, Statement (.setoOvrRTpadX v) := fun _ => rfl
theorem setoOvrRTpadY : ∀ v, Statement (.setoOvrRTpadY v) := fun _ => rfl
theorem setoOvrTiltX : ∀ v, Statement (.setoOvrTiltX v) := fun _ => rfl
theorem setoOvrTiltY : ∀ v, Statement (.setoOvrTiltY v) := fun _ => rfl
theorem setoOvrDPadUp : ∀ v, Statement (.setoOvrDPadUp v) := fun _ => rfl
theorem setoOvrDPadRight : ∀ v, Statement (.setoOvrDPadRight v) := fun _ => rfl
theorem setoOvrDPadDown : ∀ v, Statement (.setoOvrDPadDown v) := fun _ => rfl
theorem setoOvrDPadLeft : ∀ v, Statement (.setoOvrDPadLeft v) := fun _ => rfl
theorem setoOvrSquare : ∀ v, Statement (.setoOvrSquare v) := fun _ => rfl
theorem setoOvrCross : ∀ v, Statement (.setoOvrCross v) := fun _ => rfl
theorem setoOvrCircle : ∀ v, Statement (.setoOvrCircle v) := fun _ => rfl
theorem setoOvrTriangle : ∀ v, Statement (.setoOvrTriangle v) := fun _ => rfl
theorem setoOvrL1 : ∀ v, Statement (.setoOvrL1 v) := fun _ => rfl
theorem setoOvrR1 : ∀ v, Statement (.setoOvrR1 v) := fun _ => rfl
theorem setoOvrL2 : ∀ v, Statement (.setoOvrL2 v) := fun _ => rfl
theorem setoOvrR2 : ∀ v, Statement (.setoOvrR2 v) := fun _ => rfl
theorem setoOvrL3 : ∀ v, Statement (.setoOvrL3 v) := fun _ => rfl
theorem setoOvrR3 : ∀ v, Statement (.setoOvrR3 v) := fun _ => rfl
theorem setoOvrShare : ∀ v, Statement (.setoOvrShare v) := fun _ => rfl
theorem setoOvrOptions : ∀ v, Statement (.setoOvrOptions v) := fun _ => rfl
theorem setoOvrPs : ∀ v, Statement (.setoOvrPs v) := fun _ => rfl
theorem setoOvrTpadPress : ∀ v, Statement (.setoOvrTpadPress v) := fun _ => rfl
theorem setoLedRed : ∀ v, Statement (.setoLedRed v) := fun _ => rfl
theorem setoLedGreen : ∀ v, Statement (.setoLedGreen v) := fun _ => rfl
theorem setoLedBlue : ∀ v, Statement (.setoLedBlue v) := fun _ => rfl
theorem setoBlinkOn : ∀ v, Statement (.setoBlinkOn v) := fun _ => rfl
theorem setoBlinkOff : ∀ v, Statement (.setoBlinkOff v) := fun _ => rfl
theorem setoRumbleLow : ∀ v, Statement (.setoRumbleLow v) := fun _ => rfl
theorem setoRumbleHigh : ∀ v, Statement (.setoRumbleHigh v) := fun _ => rfl
theorem setoPwLStickX : ∀ v, Statement (.setoPwLStickX v) := fun _ => rfl
theorem setoPwLStickY : ∀ v, Statement (.setoPwLStickY v) := fun _ => rfl
theorem setoPwRStickX : ∀ v, Statement (.setoPwRStickX v) := fun _ => rfl
theorem setoPwRStickY : ∀ v, Statement (.setoPwRStickY v) := fun _ => rfl
theorem setoPwL2Analog : ∀ v, Statement (.setoPwL2Analog v) := fun _ => rfl
theorem setoPwR2Analog : ∀ v, Statement (.setoPwR2Analog v) := fun _ => rfl
theorem setoPwLTpadX : ∀ v, Statement (.setoPwLTpadX v) := fun _ => rfl
theorem setoPwLTpadY : ∀ v, Statement (.setoPwLTpadY v) := fun _ => rfl
theorem setoPwRTpadX : ∀ v, Statement (.setoPwRTpadX v) := fun _ => rfl
theorem setoPwRTpadY : ∀ v, Statement (.setoPwRTpadY v) := fun _ => rfl
theorem setoPwTiltX : ∀ v, Statement (.setoPwTiltX v) := fun _ => rfl
theorem setoPwTiltY : ∀ v, Statement (.setoPwTiltY v) := fun _ => rfl
theorem setoStDPadUp : ∀ v, Statement (.setoStDPadUp v) := fun _ => rfl
theorem setoStDPadRight : ∀ v, Statement (.setoStDPadRight v) := fun _ => rfl
theorem setoStDPadDown : ∀ v, Statement (.setoStDPadDown v) := fun _ => rfl
theorem setoStDPadLeft : ∀ v, Statement (.setoStDPadLeft v) := fun _ => rfl
theorem setoStSquare : ∀ v, Statement (.setoStSquare v) := fun _ => rfl
theorem setoStCross : ∀ v, Statement (.setoStCross v) := fun _ => rfl
theorem setoStCircle : ∀ v, Statement (.setoStCircle v) := fun _ => rfl
theorem setoStTriangle : ∀ v, Statement (.setoStTriangle v) := fun _ => rfl
theorem setoStL1 : ∀ v, Statement (.setoStL1 v) := fun _ => rfl
theorem setoStR1 : ∀ v, Statement (.setoStR1 v) := fun _ => rfl
theorem setoStL2 : ∀ v, Statement (.setoStL2 v) := fun _ => rfl
theorem setoStR2 : ∀ v, Statement (.setoStR2 v) := fun _ => rfl
theorem setoStL3 : ∀ v, Statement (.setoStL3 v) := fun _ => rfl
theorem setoStR3 : ∀ v, Statement (.setoStR3 v) := fun _ => rfl
theorem setoStShare : ∀ v, Statement (.setoStShare v) := fun _ => rfl
theorem setoStOptions : ∀ v, Statement (.setoStOptions v) := fun _ => rfl
theorem setoStPs : ∀ v, Statement (.setoStPs v) := fun _ => rfl
theorem setoStTpadPress : ∀ v, Statement (.setoStTpadPress v) := fun _ => rfl
theorem getiReportId : ∀ t f, Statement (.getiReportId t f) := fun _ _ => rfl
theorem getiLStickX : ∀ t f, Statement (.getiLStickX t f) := fun _ _ => rfl
theorem getiLStickY : ∀ t f, Statement (.getiLStickY t f) := fun _ _ => rfl
theorem getiRStickX : ∀ t f, Statement (.getiRStickX t f) := fun _ _ => rfl
theorem getiRStickY : ∀ t f, Statement (.getiRStickY t f) := fun _ _ => rfl
theorem getiDPadUp : ∀ t f, Statement (.getiDPadUp t f) := fun _ _ => rfl
theorem getiDPadRight : ∀ t f, Statement (.getiDPadRight t f) := fun _ _ => rfl
theorem getiDPadDown : ∀ t f, Statement (.getiDPadDown t f) := fun _ _ => rfl
theorem getiDPadLeft : ∀ t f, Statement (.getiDPadLeft t f) := fun _ _ => rfl
theorem getiSquare : ∀ t f, Statement (.getiSquare t f) := fun _ _ => rfl
theorem getiCross : ∀ t f, Statement (.getiCross t f) := fun _ _ => rfl
theorem getiCircle : ∀ t f, Statement (.getiCircle t f) := fun _ _ => rfl
theorem getiTriangle : ∀ t f, Statement (.getiTriangle t f) := fun _ _ => rfl
theorem getiL1 : ∀ t f, Statement (.getiL1 t f) := fun _ _ => rfl
theorem getiR1 : ∀ t f, Statement (.getiR1 t f) := fun _ _ => rfl
theorem getiL2 : ∀ t f, Statement (.getiL2 t f) := fun _ _ => rfl
theorem getiR2 : ∀ t f, Statement (.getiR2 t f) := fun _ _ => rfl
theorem getiL3 : ∀ t f, Statement (.getiL3 t f) := fun _ _ => rfl
theorem getiR3 : ∀ t f, Statement (.getiR3 t f) := fun _ _ => rfl
theorem getiShare : ∀ t f, Statement (.getiShare t f) := fun _ _ => rfl
theorem getiOptions : ∀ t f, Statement (.getiOptions t f) := fun _ _ => rfl
theorem getiPs : ∀ t f, Statement (.getiPs t f) := fun _ _ => rfl
theorem getiTpadPress : ∀ t f, Statement (.getiTpadPress t f) := fun _ _ => rfl
theorem getiCounter : ∀ t f, Statement (.getiCounter t f) := fun _ _ => rfl
theorem getiL2Analog : ∀ t f, Statement (.getiL2Analog t f) := fun _ _ => rfl
theorem getiR2Analog : ∀ t f, Statement (.getiR2Analog t f) := fun _ _ => rfl
theorem getiGyroX : ∀ t f, Statement (.getiGyroX t f) := fun _ _ => rfl
theorem getiGyroY : ∀ t f, Statement (.getiGyroY t f) := fun _ _ => rfl
theorem getiGyroZ : ∀ t f, Statement (.getiGyroZ t f) := fun _ _ => rfl
theorem getiAccelX : ∀ t f, Statement (.getiAccelX t f) := fun _ _ => rfl
theorem getiAccelY : ∀ t f, Statement (.getiAccelY t f) := fun _ _ => rfl
theorem getiAccelZ : ∀ t f, Statement (.getiAccelZ t f) := fun _ _ => rfl
theorem getiBattery : ∀ t f, Statement (.getiBattery t f) := fun _ _ => rfl
theorem getiUsbPresent : ∀ t f, Statement (.getiUsbPresent t f) := fun _ _ => rfl
theorem getiTpadPacketCount : ∀ t f, Statement (.getiTpadPacketCount t f) := fun _ _ => rfl
theorem getiTpadCounter : ∀ t f, Statement (.getiTpadCounter t f) := fun _ _ => rfl
theorem getiTouchId : ∀ t f, Statement (.getiTouchId t f) := fun _ _ => rfl
theorem getiNoContact : ∀ t f, Statement (.getiNoContact t f) := fun _ _ => rfl
theorem getiTouchX : ∀ t f, Statement (.getiTouchX t f) := fun _ _ => rfl
theorem getiTouchY : ∀ t f, Statement (.getiTouchY t f) := fun _ _ => rfl
theorem getiEchoLStickX : ∀ t f, Statement (.getiEchoLStickX t f) := fun _ _ => rfl
theorem getiEchoLStickY : ∀ t f, Statement (.getiEchoLStickY t f) := fun _ _ => rfl
theorem getiEchoRStickX : ∀ t f, Statement (.getiEchoRStickX t f) := fun _ _ => rfl
theorem getiEchoRStickY : ∀ t f, Statement (.getiEchoRStickY t f) := fun _ _ => rfl
theorem getiEchoL2Analog : ∀ t f, Statement (.getiEchoL2Analog t f) := fun _ _ => rfl
theorem getiEchoR2Analog : ∀ t f, Statement (.getiEchoR2Analog t f) := fun _ _ => rfl
theorem getiEchoLTpadX : ∀ t f, Statement (.getiEchoLTpadX t f) := fun _ _ => rfl
theorem getiEchoLTpadY : ∀ t f, Statement (.getiEchoLTpadY t f) := fun _ _ => rfl
theorem getiEchoRTpadX : ∀ t f, Statement (.getiEchoRTpadX t f) := fun _ _ => rfl
theorem getiEchoRTpadY : ∀ t f, Statement (.getiEchoRTpadY t f) := fun _ _ => rfl
theorem getiEchoTiltX : ∀ t f, Statement (.getiEchoTiltX t f) := fun _ _ => rfl
theorem getiEchoTiltY : ∀ t f, Statement (.getiEchoTiltY t f) := fun _ _ => rfl
theorem getiEchoBtnDPadUp : ∀ t f, Statement (.getiEchoBtnDPadUp t f) := fun _ _ => rfl
theorem getiEchoBtnDPadRight : ∀ t f, Statement (.getiEchoBtnDPadRight t f) := fun _ _ => rfl
theorem getiEchoBtnDPadDown : ∀ t f, Statement (.getiEchoBtnDPadDown t f) := fun _ _ => rfl
theorem getiEchoBtnDPadLeft : ∀ t f, Statement (.getiEchoBtnDPadLeft t f) := fun _ _ => rfl
theorem getiEchoBtnSquare : ∀ t f, Statement (.getiEchoBtnSquare t f) := fun _ _ => rfl
theorem getiEchoBtnCross : ∀ t f, Statement (.getiEchoBtnCross t f) := fun _ _ => rfl
theorem getiEchoBtnCircle : ∀ t f, Statement (.getiEchoBtnCircle t f) := fun _ _ => rfl
theorem getiEchoBtnTriangle : ∀ t f, Statement (.getiEchoBtnTriangle t f) := fun _ _ => rfl
theorem getiEchoBtnL1 : ∀ t f, Statement (.getiEchoBtnL1 t f) := fun _ _ => rfl
theorem getiEchoBtnR1 : ∀ t f, Statement (.getiEchoBtnR1 t f) := fun _ _ => rfl
theorem getiEchoBtnL2 : ∀ t f, Statement (.getiEchoBtnL2 t f) := fun _ _ => rfl
theorem getiEchoBtnR2 : ∀ t f, Statement (.getiEchoBtnR2 t f) := fun _ _ => rfl
theorem getiEchoBtnL3 : ∀ t f, Statement (.getiEchoBtnL3 t f) := fun _ _ => rfl
theorem getiEchoBtnR3 : ∀ t f, Statement (.getiEchoBtnR3 t f) := fun _ _ => rfl
theorem getiEchoBtnShare : ∀ t f, Statement (.getiEchoBtnShare t f) := fun _ _ => rfl
theorem getiEchoBtnOptions : ∀ t f, Statement (.getiEchoBtnOptions t f) := fun _ _ => rfl
theorem getiEchoBtnPs : ∀ t f, Statement (.getiEchoBtnPs t f) := fun _ _ => rfl
theorem getiEchoBtnTpadPress : ∀ t f, Statement (.getiEchoBtnTpadPress t f) := fun _ _ => rfl
theorem setiReportId : ∀ t f v, Statement (.setiReportId t f v) := fun _ _ _ => rfl
theorem setiLStickX : ∀ t f v, Statement (.setiLStickX t f v) := fun _ _ _ => rfl
theorem setiLStickY : ∀ t f v, Statement (.setiLStickY t f v) := fun _ _ _ => rfl
theorem setiRStickX : ∀ t f v, Statement (.setiRStickX t f v) := fun _ _ _ => rfl
theorem setiRStickY : ∀ t f v, Statement (.setiRStickY t f v) := fun _ _ _ => rfl
theorem setiDPadUp : ∀ t f v, Statement (.setiDPadUp t f v) := fun _ _ _ => rfl
theorem setiDPadRight : ∀ t f v, Statement (.setiDPadRight t f v) := fun _ _ _ => rfl
theorem setiDPadDown : ∀ t f v, Statement (.setiDPadDown t f v) := fun _ _ _ => rfl
theorem setiDPadLeft : ∀ t f v, Statement (.setiDPadLeft t f v) := fun _ _ _ => rfl
theorem setiSquare : ∀ t f v, Statement (.setiSquare t f v) := fun _ _ _ => rfl
theorem setiCross : ∀ t f v, Statement (.setiCross t f v) := fun _ _ _ => rfl
theorem setiCircle : ∀ t f v, Statement (.setiCircle t f v) := fun _ _ _ => rfl
theorem setiTriangle : ∀ t f v, Statement (.setiTriangle t f v) := fun _ _ _ => rfl
theorem setiL1 : ∀ t f v, Statement (.setiL1 t f v) := fun _ _ _ => rfl
theorem setiR1 : ∀ t f v, Statement (.setiR1 t f v) := fun _ _ _ => rfl
theorem setiL2 : ∀ t f v, Statement (.setiL2 t f v) := fun _ _ _ => rfl
theorem setiR2 : ∀ t f v, Statement (.setiR2 t f v) := fun _ _ _ => rfl
theorem setiL3 : ∀ t f v, Statement (.setiL3 t f v) := fun _ _ _ => rfl
theorem setiR3 : ∀ t f v, Statement (.setiR3 t f v) := fun _ _ _ => rfl
theorem setiShare : ∀ t f v, Statement (.setiShare t f v) := fun _ _ _ => rfl
theorem setiOptions : ∀ t f v, Statement (.setiOptions t f v) := fun _ _ _ => rfl
theorem setiPs : ∀ t f v, Statement (.setiPs t f v) := fun _ _ _ => rfl
theorem setiTpadPress : ∀ t f v, Statement (.setiTpadPress t f v) := fun _ _ _ => rfl
theorem setiCounter : ∀ t f v, Statement (.setiCounter t f v) := fun _ _ _ => rfl
theorem setiL2Analog : ∀ t f v, Statement (.setiL2Analog t f v) := fun _ _ _ => rfl
theorem setiR2Analog : ∀ t f v, Statement (.setiR2Analog t f v) := fun _ _ _ => rfl
theorem setiGyroX : ∀ t f v, Statement (.setiGyroX t f v) := fun _ _ _ => rfl
theorem setiGyroY : ∀ t f v, Statement (.setiGyroY t f v) := fun _ _ _ => rfl
theorem setiGyroZ : ∀ t f v, Statement (.setiGyroZ t f v) := fun _ _ _ => rfl
theorem setiAccelX : ∀ t f v, Statement (.setiAccelX t f v) := fun _ _ _ => rfl
theorem setiAccelY : ∀ t f v, Statement (.setiAccelY t f v) := fun _ _ _ => rfl
theorem setiAccelZ : ∀ t f v, Statement (.setiAccelZ t f v) := fun _ _ _ => rfl
theorem setiBattery : ∀ t f v, Statement (.setiBattery t f v) := fun _ _ _ => rfl
theorem setiUsbPresent : ∀ t f v, Statement (.setiUsbPresent t f v) := fun _ _ _ => rfl
theorem setiTpadPacketCount : ∀ t f v, Statement (.setiTpadPacketCount t f v) := fun _ _ _ => rfl
theorem setiTpadCounter : ∀ t f v, Statement (.setiTpadCounter t f v) := fun _ _ _ => rfl
theorem setiTouchId : ∀ t f v, Statement (.setiTouchId t f v) := fun _ _ _ => rfl
theorem setiNoContact : ∀ t f v, Statement (.setiNoContact t f v) := fun _ _ _ => rfl
theorem setiTouchX : ∀ t f v, Statement (.setiTouchX t f v) := fun _ _ _ => rfl
theorem setiTouchY : ∀ t f v, Statement (.setiTouchY t f v) := fun _ _ _ => rfl
theorem setiEchoLStickX : ∀ t f v, Statement (.setiEchoLStickX t f v) := fun _ _ _ => rfl
theorem setiEchoLStickY : ∀ t f v, Statement (.setiEchoLStickY t f v) := fun _ _ _ => rfl
theorem setiEchoRStickX : ∀ t f v, Statement (.setiEchoRStickX t f v) := fun _ _ _ => rfl
theorem setiEchoRStickY : ∀ t f v, Statement (.setiEchoRStickY t f v) := fun _ _ _ => rfl
theorem setiEchoL2Analog : ∀ t f v, Statement (.setiEchoL2Analog t f v) := fun _ _ _ => rfl
theorem setiEchoR2Analog : ∀ t f v, Statement (.setiEchoR2Analog t f v) := fun _ _ _ => rfl
theorem setiEchoLTpadX : ∀ t f v, Statement (.setiEchoLTpadX t f v) := fun _ _ _ => rfl
theorem setiEchoLTpadY : ∀ t f v, Statement (.setiEchoLTpadY t f v) := fun _ _ _ => rfl
theorem setiEchoRTpadX : ∀ t f v, Statement (.setiEchoRTpadX t f v) := fun _ _ _ => rfl
theorem setiEchoRTpadY : ∀ t f v, Statement (.setiEchoRTpadY t f v) := fun _ _ _ => rfl
theorem setiEchoTiltX : ∀ t f v, Statement (.setiEchoTiltX t f v) := fun _ _ _ => rfl
theorem setiEchoTiltY : ∀ t f v, Statement (.setiEchoTiltY t f v) := fun _ _ _ => rfl
theorem setiEchoBtnDPadUp : ∀ t f v, Statement (.setiEchoBtnDPadUp t f v) := fun _ _ _ => rfl
theorem setiEchoBtnDPadRight : ∀ t f v, Statement (.setiEchoBtnDPadRight t f v) := fun _ _ _ => rfl
theorem setiEchoBtnDPadDown : ∀ t f v, Statement (.setiEchoBtnDPadDown t f v) := fun _ _ _ => rfl
theorem setiEchoBtnDPadLeft : ∀ t f v, Statement (.setiEchoBtnDPadLeft t f v) := fun _ _ _ => rfl
theorem setiEchoBtnSquare : ∀ t f v, Statement (.setiEchoBtnSquare t f v) := fun _ _ _ => rfl
theorem setiEchoBtnCross : ∀ t f v, Statement (.setiEchoBtnCross t f v) := fun _ _ _ => rfl
theorem setiEchoBtnCircle : ∀ t f v, Statement (.setiEchoBtnCircle t f v) := fun _ _ _ => rfl
theorem setiEchoBtnTriangle : ∀ t f v, Statement (.setiEchoBtnTriangle t f v) := fun _ _ _ => rfl
theorem setiEchoBtnL1 : ∀ t f v, Statement (.setiEchoBtnL1 t f v) := fun _ _ _ => rfl
theorem setiEchoBtnR1 : ∀ t f v, Statement (.setiEchoBtnR1 t f v) := fun _ _ _ => rfl
theorem setiEchoBtnL2 : ∀ t f v, Statement (.setiEchoBtnL2 t f v) := fun _ _ _ => rfl
theorem setiEchoBtnR2 : ∀ t f v, Statement (.setiEchoBtnR2 t f v) := fun _ _ _ => rfl
theorem setiEchoBtnL3 : ∀ t f v, Statement (.setiEchoBtnL3 t f v) := fun _ _ _ => rfl
theorem setiEchoBtnR3 : ∀ t f v, Statement (.setiEchoBtnR3 t f v) := fun _ _ _ => rfl
theorem setiEchoBtnShare : ∀ t f v, Statement (.setiEchoBtnShare t f v) := fun _ _ _ => rfl
theorem setiEchoBtnOptions : ∀ t f v, Statement (.setiEchoBtnOptions t f v) := fun _ _ _ => rfl
theorem setiEchoBtnPs : ∀ t f v, Statement (.setiEchoBtnPs t f v) := fun _ _ _ => rfl
theorem setiEchoBtnTpadPress : ∀ t f v, Statement (.setiEchoBtnTpadPress t f v) := fun _ _ _ => rfl
theorem rdo : Statement .rdo := rfl
theorem wro : ∀ b, Statement (.wro b) := fun _ => rfl
theorem rdi : Statement .rdi := rfl
theorem wri : ∀ b, Statement (.wri b) := fun _ => rfl
theorem setind : ∀ r g b on off, Statement (.setind r g b on off) := fun _ _ _ _ _ => rfl
theorem exec : Statement .exec := rfl
theorem rst : Statement .rst := rfl
theorem reservedOp0 : ∀ low, Statement (.reservedOp0 low) := fun _ => rfl
theorem reservedOpC : ∀ low, Statement (.reservedOpC low) := fun _ => rfl
theorem reservedOpD : ∀ low, Statement (.reservedOpD low) := fun _ => rfl
theorem reservedOpE : ∀ low, Statement (.reservedOpE low) := fun _ => rfl
theorem reservedOpF : ∀ low, Statement (.reservedOpF low) := fun _ => rfl

end Sys2Proof.Laws.FormRoundTrip
end

