-- ==== Sys2Proof/Laws/Exec.lean ====
section
/-! SUPPORT. Every instruction's meaning by its form: 292 arms read as twelve. -/

namespace Sys2Proof.Machine

/-- The meaning of a form. -/
def execForm : Form → State → Result
  | .geto x, s => getOut x s
  | .seto x v, s => setOut x v s
  | .geti x t f, s => getIn x t f s
  | .seti x t f v, s => setIn x t f v s
  | .rdo, s => execRdo s
  | .wro b, s => execWro b s
  | .rdi, s => execRdi s
  | .wri b, s => execWri b s
  | .setind r g b on off, s => execSetind r g b on off s
  | .exec, s => execExec s
  | .rst, s => execRst s
  | .reserved _ _, s => illegalOperation s

/-- `exec` is the meaning of the instruction's form. -/
theorem exec_eq_execForm (i : Instr) (s : State) : exec i s = execForm i.form s := by
  cases i <;> rfl

/-- Every instruction answers a next state. -/
theorem execForm_next (x : Form) (s : State) : ∃ s', execForm x s = .next s' := by
  cases x <;> exact ⟨_, rfl⟩

end Sys2Proof.Machine

namespace Sys2Proof

/-- A form is the form of its instruction. -/
theorem form_ofForm (x : Form) : (Instr.ofForm x).form = x := by
  cases x with
  | geto x => cases x <;> rfl
  | seto x v => cases x <;> rfl
  | geti x t f => cases x <;> rfl
  | seti x t f v => cases x <;> rfl
  | reserved o low => cases o <;> rfl
  | _ => rfl

end Sys2Proof
end

