-- ==== Sys2Proof/Laws/Packet.lean ====
section
/-! SUPPORT. The laws of packet access: each operation's effect on one byte or one bit, once and for all. -/

namespace Sys2Proof.Machine

variable {n : Nat}

/-! ## Bytes -/

theorem byteAt_eq_getElem (p : Packet n) {i : Nat} (h : i < n) : byteAt p i = p[i] := by
  simp [byteAt, h]

@[simp] theorem byteAt_outside (p : Packet n) {i : Nat} (h : n ≤ i) : byteAt p i = 0#8 := by
  simp [byteAt, h]

theorem byteAt_setByte (p : Packet n) (i j : Nat) (b : Byte) :
    byteAt (setByte p i b) j = if i = j ∧ j < n then b else byteAt p j := by
  unfold byteAt setByte
  grind

@[simp] theorem byteAt_setByte_self (p : Packet n) {i : Nat} (b : Byte) (h : i < n) :
    byteAt (setByte p i b) i = b := by
  simp [byteAt_setByte, h]

theorem byteAt_setByte_other (p : Packet n) {i j : Nat} (b : Byte) (h : i ≠ j) :
    byteAt (setByte p i b) j = byteAt p j := by
  simp [byteAt_setByte, h]

@[simp] theorem byteAt_zeroPacket (i : Nat) : byteAt (zeroPacket : Packet n) i = 0#8 := by
  by_cases h : i < n
  · simp [byteAt_eq_getElem _ h, zeroPacket]
  · exact byteAt_outside _ (by omega)

/-- Packets with equal bytes are equal. -/
theorem packet_ext {p q : Packet n} (h : ∀ i, i < n → byteAt p i = byteAt q i) : p = q := by
  ext i hi : 1
  simpa [byteAt_eq_getElem _ hi] using h i hi

/-! ## Bits -/

theorem getLsbD_putBit (b : Byte) (k j : Nat) (v : Bool) (h : k < 8) :
    (putBit b k v).getLsbD j = if j = k then v else b.getLsbD j := by
  by_cases hj : j < 8
  · interval_cases k <;> interval_cases j <;> cases v <;> simp [putBit]
  · have hjk : j ≠ k := by omega
    simp [hjk, BitVec.getLsbD_of_ge b j (by omega), BitVec.getLsbD_of_ge (putBit b k v) j (by omega)]

theorem bitAt_setBit (p : Packet n) (a x : Nat) (v : Bool) :
    bitAt (setBit p a v) x = if x = a ∧ a < 8 * n then v else bitAt p x := by
  unfold bitAt setBit
  rw [byteAt_setByte]
  by_cases h : a / 8 = x / 8 ∧ x / 8 < n
  · rw [if_pos h, getLsbD_putBit _ _ _ _ (Nat.mod_lt _ (by omega))]
    by_cases hx : x = a
    · subst hx
      simp [show x < 8 * n by omega]
    · rw [if_neg (by omega), if_neg (by omega), h.1]
  · rw [if_neg h, if_neg (by omega)]

@[simp] theorem bitAt_outside (p : Packet n) {a : Nat} (h : 8 * n ≤ a) : bitAt p a = false := by
  simp [bitAt, byteAt_outside p (show n ≤ a / 8 by omega)]

@[simp] theorem bitAt_zeroPacket (a : Nat) : bitAt (zeroPacket : Packet n) a = false := by
  simp [bitAt]

/-- Packets with equal bits are equal. -/
theorem packet_ext_bits {p q : Packet n} (h : ∀ a, a < 8 * n → bitAt p a = bitAt q a) : p = q := by
  refine packet_ext fun i hi => BitVec.eq_of_getLsbD_eq fun k hk => ?_
  have := h (8 * i + k) (by omega)
  simpa [bitAt, show (8 * i + k) / 8 = i by omega, show (8 * i + k) % 8 = k by omega] using this

/-- What `BitWrite` does to one bit (20_memory.md R35). -/
theorem bitAt_bitWrite (p : Packet n) (a w x : Nat) (v : Scalar) :
    bitAt (bitWrite p a w v) x =
      if a ≤ x ∧ x < a + w ∧ x < 8 * n then v.getLsbD (x - a) else bitAt p x := by
  induction w with
  | zero => simp [bitWrite, show ¬(a ≤ x ∧ x < a ∧ x < 8 * n) by omega]
  | succ w ih =>
    rw [bitWrite, bitAt_setBit, ih]
    by_cases h : x = a + w
    · subst h
      by_cases hn : a + w < 8 * n <;> simp [hn]
    · simp [h, show x < a + (w + 1) ↔ x < a + w by omega]

/-- `BitWrite` leaves the bytes it does not touch alone. -/
theorem byteAt_bitWrite_other (p : Packet n) (a w i : Nat) (v : Scalar)
    (h : 8 * i + 8 ≤ a ∨ a + w ≤ 8 * i) : byteAt (bitWrite p a w v) i = byteAt p i := by
  refine BitVec.eq_of_getLsbD_eq fun k hk => ?_
  have := bitAt_bitWrite p a w (8 * i + k) v
  rw [if_neg (by omega)] at this
  simpa [bitAt, show (8 * i + k) / 8 = i by omega, show (8 * i + k) % 8 = k by omega] using this

/-- What `BitRead` returns, bit by bit (20_memory.md R34). -/
theorem getLsbD_bitRead (p : Packet n) (a w k : Nat) (h : w ≤ 16) :
    (bitRead p a w).getLsbD k = (decide (k < w) && bitAt p (a + k)) := by
  induction w with
  | zero => simp [bitRead]
  | succ w ih =>
    rw [bitRead, BitVec.getLsbD_or, ih (by omega)]
    by_cases hk : k = w
    · subst hk
      by_cases hb : bitAt p (a + k) <;> simp [hb, show k < 16 by omega]
    · by_cases hb : bitAt p (a + w)
      · rw [if_pos hb, BitVec.getLsbD_shiftLeft, BitVec.getLsbD_one]
        by_cases hlt : k < w
        · simp [hlt, show k < w + 1 by omega]
        · simp [hlt, show ¬k < w + 1 by omega]
          omega
      · rw [if_neg hb]
        simp [show k < w + 1 ↔ k < w by omega]

/-- Two `BitRead`s agree where the bits agree. -/
theorem bitRead_congr {m : Nat} {p : Packet n} {q : Packet m} {a b w : Nat}
    (h : ∀ k, k < w → bitAt p (a + k) = bitAt q (b + k)) : bitRead p a w = bitRead q b w := by
  induction w with
  | zero => rfl
  | succ w ih => simp only [bitRead]; rw [ih fun k hk => h k (by omega), h w (by omega)]

/-- A `BitRead` of `w` bits is below `2^w`. -/
theorem bitRead_lt (p : Packet n) (a w : Nat) (h : w ≤ 16) : (bitRead p a w).toNat < 2 ^ w := by
  refine Nat.lt_pow_two_of_testBit _ fun k hk => ?_
  rw [BitVec.testBit_toNat, getLsbD_bitRead _ _ _ _ h]
  simp [show ¬k < w by omega]

/-- `BitRead` after `BitWrite` at the same place (40_codec_access.md R98). -/
theorem bitRead_bitWrite_self (p : Packet n) (a w : Nat) (v : Scalar) (hw : w ≤ 16) (ha : a + w ≤ 8 * n)
    (hv : v.toNat < 2 ^ w) : bitRead (bitWrite p a w v) a w = v := by
  refine BitVec.eq_of_getLsbD_eq fun k hk => ?_
  rw [getLsbD_bitRead _ _ _ _ hw, bitAt_bitWrite]
  by_cases h : k < w
  · simp [h, show a + k < 8 * n by omega]
  · have : v.getLsbD k = false := by
      rw [← BitVec.testBit_toNat]
      exact Nat.testBit_lt_two_pow (lt_of_lt_of_le hv (Nat.pow_le_pow_right (by omega) (by omega)))
    simp [h, this]

/-- `BitRead` after `BitWrite` elsewhere (40_codec_access.md R99). -/
theorem bitRead_bitWrite_disjoint (p : Packet n) (a w b u : Nat) (v : Scalar)
    (h : b + u ≤ a ∨ a + w ≤ b) : bitRead (bitWrite p a w v) b u = bitRead p b u := by
  refine bitRead_congr fun k hk => ?_
  rw [bitAt_bitWrite, if_neg (by omega)]

/-! ## Bytes of port values -/

@[simp] theorem length_packetBytes (p : Packet n) : (packetBytes p).length = n := by simp [packetBytes]

theorem packetBytes_getD (p : Packet n) (i : Nat) : (packetBytes p).getD i 0#8 = byteAt p i := by
  unfold packetBytes byteAt
  grind

theorem byteAt_packetOfBytes (l : List Byte) {i : Nat} (h : i < n) :
    byteAt (packetOfBytes n l) i = l.getD i 0#8 := by
  rw [byteAt_eq_getElem _ h]
  simp [packetOfBytes]

@[simp] theorem packetOfBytes_packetBytes (p : Packet n) : packetOfBytes n (packetBytes p) = p :=
  packet_ext fun i hi => by rw [byteAt_packetOfBytes _ hi, packetBytes_getD]

@[simp] theorem length_scalarBytes (v : Scalar) : (scalarBytes v).length = 2 := rfl

@[simp] theorem scalarOfBytes_scalarBytes (v : Scalar) : scalarOfBytes (scalarBytes v) = v := by
  refine BitVec.eq_of_getLsbD_eq fun k hk => ?_
  simp only [scalarOfBytes, scalarBytes, List.getD_cons_zero, List.getD_cons_succ, BitVec.getLsbD_append,
    BitVec.getLsbD_extractLsb']
  by_cases h : k < 8
  · simp [h]
  · simp [h, show k - 8 < 8 by omega, show 8 + (k - 8) = k by omega]

end Sys2Proof.Machine
end

