-- ==== Sys2Proof/Laws/Decode.lean ====
section
/-! SUPPORT. The fields of a request word, and the field lookup. -/

namespace Sys2Proof

open Machine

/-! ## The four fields of a word -/

@[simp] theorem opOf_wordOf (op : BitVec 4) (f t : BitVec 2) (fid : BitVec 8) : opOf (wordOf op f t fid) = op := by
  ext i hi
  simp [opOf, wordOf, BitVec.getElem_extractLsb']
  grind

@[simp] theorem fingerOf_wordOf (op : BitVec 4) (f t : BitVec 2) (fid : BitVec 8) :
    fingerOf (wordOf op f t fid) = f := by
  ext i hi
  simp [fingerOf, wordOf, BitVec.getElem_extractLsb']
  grind

@[simp] theorem subRecordOf_wordOf (op : BitVec 4) (f t : BitVec 2) (fid : BitVec 8) :
    subRecordOf (wordOf op f t fid) = t := by
  ext i hi
  simp [subRecordOf, wordOf, BitVec.getElem_extractLsb']
  grind

@[simp] theorem fidOf_wordOf (op : BitVec 4) (f t : BitVec 2) (fid : BitVec 8) : fidOf (wordOf op f t fid) = fid := by
  ext i hi
  simp [fidOf, wordOf, BitVec.getElem_extractLsb']
  grind

@[simp] theorem opOf_append (op : BitVec 4) (low : BitVec 12) : opOf (op ++ low) = op := by
  ext i hi
  simp only [opOf, BitVec.getElem_extractLsb', BitVec.getLsbD_append]
  grind

@[simp] theorem lowOf_append (op : BitVec 4) (low : BitVec 12) : lowOf (op ++ low) = low := by
  ext i hi
  simp only [lowOf, BitVec.getElem_extractLsb', BitVec.getLsbD_append]
  grind

/-- A word is its four fields. -/
theorem wordOf_fields (w : ReqWord) : wordOf (opOf w) (fingerOf w) (subRecordOf w) (fidOf w) = w := by
  ext i hi
  simp only [opOf, fingerOf, subRecordOf, fidOf, wordOf]
  grind

/-- A word is its operation code and its low twelve bits. -/
theorem append_fields (w : ReqWord) : opOf w ++ lowOf w = w := by
  ext i hi
  simp only [opOf, lowOf]
  grind

/-! ## Lookup -/

theorem outLookup_fid (x : OutField) : outLookup (outRow x).fid = some x := by cases x <;> rfl

theorem inLookup_fid (x : InField) : inLookup (inRow x).fid = some x := by cases x <;> rfl

theorem outLookup_some {fid : BitVec 8} {x : OutField} (h : outLookup fid = some x) : (outRow x).fid = fid := by
  simpa using List.find?_some h

theorem inLookup_some {fid : BitVec 8} {x : InField} (h : inLookup fid = some x) : (inRow x).fid = fid := by
  simpa using List.find?_some h

end Sys2Proof
end

