-- ==== Sys2Proof/Laws/State.lean ====
section
/-! SUPPORT. What each update of the state leaves in each field: one lemma per field per update, all by `rfl`. -/

namespace Sys2Proof.Machine

variable (s : State)

@[simp] theorem selAssert_outpkt : (selAssert s).outpkt = s.outpkt := rfl
@[simp] theorem selAssert_inpkt : (selAssert s).inpkt = s.inpkt := rfl
@[simp] theorem selAssert_phase : (selAssert s).phase = s.phase := rfl
@[simp] theorem selAssert_idx : (selAssert s).idx = s.idx := rfl
@[simp] theorem selAssert_busy : (selAssert s).busy = s.busy := rfl
@[simp] theorem selAssert_fault : (selAssert s).fault = s.fault := rfl
@[simp] theorem selAssert_fcode : (selAssert s).fcode = s.fcode := rfl
@[simp] theorem selAssert_sel : (selAssert s).sel = true := rfl
@[simp] theorem selAssert_rsp : (selAssert s).rsp = s.rsp := rfl
@[simp] theorem selAssert_trace : (selAssert s).trace = s.trace ++ [.selAssert] := rfl
@[simp] theorem selAssert_host : (selAssert s).host = s.host := rfl
@[simp] theorem selAssert_board : (selAssert s).board = s.board := rfl
@[simp] theorem selAssert_freeCount : (selAssert s).freeCount = s.freeCount := rfl

@[simp] theorem selDeassert_outpkt : (selDeassert s).outpkt = s.outpkt := rfl
@[simp] theorem selDeassert_inpkt : (selDeassert s).inpkt = s.inpkt := rfl
@[simp] theorem selDeassert_phase : (selDeassert s).phase = s.phase := rfl
@[simp] theorem selDeassert_idx : (selDeassert s).idx = s.idx := rfl
@[simp] theorem selDeassert_busy : (selDeassert s).busy = s.busy := rfl
@[simp] theorem selDeassert_fault : (selDeassert s).fault = s.fault := rfl
@[simp] theorem selDeassert_fcode : (selDeassert s).fcode = s.fcode := rfl
@[simp] theorem selDeassert_sel : (selDeassert s).sel = false := rfl
@[simp] theorem selDeassert_rsp : (selDeassert s).rsp = s.rsp := rfl
@[simp] theorem selDeassert_trace : (selDeassert s).trace = s.trace ++ [.selDeassert] := rfl
@[simp] theorem selDeassert_host : (selDeassert s).host = s.host := rfl
@[simp] theorem selDeassert_board : (selDeassert s).board = s.board := rfl
@[simp] theorem selDeassert_freeCount : (selDeassert s).freeCount = s.freeCount := rfl

@[simp] theorem respond_outpkt (d : List Byte) : (respond d s).outpkt = s.outpkt := rfl
@[simp] theorem respond_inpkt (d : List Byte) : (respond d s).inpkt = s.inpkt := rfl
@[simp] theorem respond_phase (d : List Byte) : (respond d s).phase = s.phase := rfl
@[simp] theorem respond_idx (d : List Byte) : (respond d s).idx = s.idx := rfl
@[simp] theorem respond_busy (d : List Byte) : (respond d s).busy = s.busy := rfl
@[simp] theorem respond_fault (d : List Byte) : (respond d s).fault = s.fault := rfl
@[simp] theorem respond_fcode (d : List Byte) : (respond d s).fcode = s.fcode := rfl
@[simp] theorem respond_sel (d : List Byte) : (respond d s).sel = s.sel := rfl
@[simp] theorem respond_rsp (d : List Byte) : (respond d s).rsp = some ⟨false, d⟩ := rfl
@[simp] theorem respond_trace (d : List Byte) : (respond d s).trace = s.trace := rfl
@[simp] theorem respond_host (d : List Byte) : (respond d s).host = s.host := rfl
@[simp] theorem respond_board (d : List Byte) : (respond d s).board = s.board := rfl
@[simp] theorem respond_freeCount (d : List Byte) : (respond d s).freeCount = s.freeCount := rfl

@[simp] theorem refuse_outpkt (n : Nat) : (refuse n s).outpkt = s.outpkt := rfl
@[simp] theorem refuse_inpkt (n : Nat) : (refuse n s).inpkt = s.inpkt := rfl
@[simp] theorem refuse_phase (n : Nat) : (refuse n s).phase = s.phase := rfl
@[simp] theorem refuse_idx (n : Nat) : (refuse n s).idx = s.idx := rfl
@[simp] theorem refuse_busy (n : Nat) : (refuse n s).busy = s.busy := rfl
@[simp] theorem refuse_fault (n : Nat) : (refuse n s).fault = s.fault := rfl
@[simp] theorem refuse_fcode (n : Nat) : (refuse n s).fcode = s.fcode := rfl
@[simp] theorem refuse_sel (n : Nat) : (refuse n s).sel = s.sel := rfl
@[simp] theorem refuse_rsp (n : Nat) : (refuse n s).rsp = some ⟨true, List.replicate n 0#8⟩ := rfl
@[simp] theorem refuse_trace (n : Nat) : (refuse n s).trace = s.trace := rfl
@[simp] theorem refuse_host (n : Nat) : (refuse n s).host = s.host := rfl
@[simp] theorem refuse_board (n : Nat) : (refuse n s).board = s.board := rfl
@[simp] theorem refuse_freeCount (n : Nat) : (refuse n s).freeCount = s.freeCount := rfl

@[simp] theorem raise_outpkt (c : FaultCause) (n : Nat) : (raise c n s).outpkt = s.outpkt := rfl
@[simp] theorem raise_inpkt (c : FaultCause) (n : Nat) : (raise c n s).inpkt = s.inpkt := rfl
@[simp] theorem raise_phase (c : FaultCause) (n : Nat) : (raise c n s).phase = s.phase := rfl
@[simp] theorem raise_idx (c : FaultCause) (n : Nat) : (raise c n s).idx = s.idx := rfl
@[simp] theorem raise_busy (c : FaultCause) (n : Nat) : (raise c n s).busy = s.busy := rfl
@[simp] theorem raise_fault (c : FaultCause) (n : Nat) : (raise c n s).fault = true := rfl
@[simp] theorem raise_fcode (c : FaultCause) (n : Nat) : (raise c n s).fcode = faultCode c := rfl
@[simp] theorem raise_sel (c : FaultCause) (n : Nat) : (raise c n s).sel = s.sel := rfl
@[simp] theorem raise_rsp (c : FaultCause) (n : Nat) : (raise c n s).rsp = some ⟨true, List.replicate n 0#8⟩ := rfl
@[simp] theorem raise_trace (c : FaultCause) (n : Nat) : (raise c n s).trace = s.trace := rfl
@[simp] theorem raise_host (c : FaultCause) (n : Nat) : (raise c n s).host = s.host := rfl
@[simp] theorem raise_board (c : FaultCause) (n : Nat) : (raise c n s).board = s.board := rfl
@[simp] theorem raise_freeCount (c : FaultCause) (n : Nat) : (raise c n s).freeCount = s.freeCount := rfl

@[simp] theorem selectStep_outpkt : (selectStep s).outpkt = s.outpkt := rfl
@[simp] theorem selectStep_inpkt : (selectStep s).inpkt = s.inpkt := rfl
@[simp] theorem selectStep_phase : (selectStep s).phase = .xfer := rfl
@[simp] theorem selectStep_idx : (selectStep s).idx = 0#7 := rfl
@[simp] theorem selectStep_busy : (selectStep s).busy = true := rfl
@[simp] theorem selectStep_fault : (selectStep s).fault = s.fault := rfl
@[simp] theorem selectStep_fcode : (selectStep s).fcode = s.fcode := rfl
@[simp] theorem selectStep_sel : (selectStep s).sel = true := rfl
@[simp] theorem selectStep_rsp : (selectStep s).rsp = none := rfl
@[simp] theorem selectStep_trace : (selectStep s).trace = s.trace ++ [.selAssert] := rfl
@[simp] theorem selectStep_host : (selectStep s).host = s.host := rfl
@[simp] theorem selectStep_board : (selectStep s).board = s.board := rfl
@[simp] theorem selectStep_freeCount : (selectStep s).freeCount = s.freeCount := rfl

@[simp] theorem capture_outpkt (r : Byte) : (capture r s).outpkt = s.outpkt := rfl
@[simp] theorem capture_inpkt (r : Byte) : (capture r s).inpkt = setByte s.inpkt s.idx.toNat r := rfl
@[simp] theorem capture_phase (r : Byte) : (capture r s).phase = s.phase := rfl
@[simp] theorem capture_idx (r : Byte) : (capture r s).idx = s.idx := rfl
@[simp] theorem capture_busy (r : Byte) : (capture r s).busy = s.busy := rfl
@[simp] theorem capture_fault (r : Byte) : (capture r s).fault = s.fault := rfl
@[simp] theorem capture_fcode (r : Byte) : (capture r s).fcode = s.fcode := rfl
@[simp] theorem capture_sel (r : Byte) : (capture r s).sel = s.sel := rfl
@[simp] theorem capture_rsp (r : Byte) : (capture r s).rsp = s.rsp := rfl
@[simp] theorem capture_trace (r : Byte) : (capture r s).trace = s.trace ++ [BusEvent.xfer (txByte s s.idx.toNat) r] := rfl
@[simp] theorem capture_host (r : Byte) : (capture r s).host = s.host := rfl
@[simp] theorem capture_board (r : Byte) : (capture r s).board = s.board := rfl
@[simp] theorem capture_freeCount (r : Byte) : (capture r s).freeCount = s.freeCount := rfl

@[simp] theorem deselectStep_outpkt : (deselectStep s).outpkt = s.outpkt := rfl
@[simp] theorem deselectStep_inpkt : (deselectStep s).inpkt = s.inpkt := rfl
@[simp] theorem deselectStep_phase : (deselectStep s).phase = .decode := rfl
@[simp] theorem deselectStep_idx : (deselectStep s).idx = s.idx := rfl
@[simp] theorem deselectStep_busy : (deselectStep s).busy = s.busy := rfl
@[simp] theorem deselectStep_fault : (deselectStep s).fault = s.fault := rfl
@[simp] theorem deselectStep_fcode : (deselectStep s).fcode = s.fcode := rfl
@[simp] theorem deselectStep_sel : (deselectStep s).sel = false := rfl
@[simp] theorem deselectStep_rsp : (deselectStep s).rsp = s.rsp := rfl
@[simp] theorem deselectStep_trace : (deselectStep s).trace = s.trace ++ [.selDeassert] := rfl
@[simp] theorem deselectStep_host : (deselectStep s).host = s.host := rfl
@[simp] theorem deselectStep_board : (deselectStep s).board = s.board := rfl
@[simp] theorem deselectStep_freeCount : (deselectStep s).freeCount = s.freeCount := rfl

@[simp] theorem decodeStep_outpkt : (decodeStep s).outpkt = s.outpkt := rfl
@[simp] theorem decodeStep_inpkt : (decodeStep s).inpkt = decodeDpad s.inpkt := rfl
@[simp] theorem decodeStep_phase : (decodeStep s).phase = .idle := rfl
@[simp] theorem decodeStep_idx : (decodeStep s).idx = s.idx := rfl
@[simp] theorem decodeStep_busy : (decodeStep s).busy = false := rfl
@[simp] theorem decodeStep_fault : (decodeStep s).fault = s.fault := rfl
@[simp] theorem decodeStep_fcode : (decodeStep s).fcode = s.fcode := rfl
@[simp] theorem decodeStep_sel : (decodeStep s).sel = s.sel := rfl
@[simp] theorem decodeStep_rsp : (decodeStep s).rsp = some ⟨false, []⟩ := rfl
@[simp] theorem decodeStep_trace : (decodeStep s).trace = s.trace := rfl
@[simp] theorem decodeStep_host : (decodeStep s).host = s.host := rfl
@[simp] theorem decodeStep_board : (decodeStep s).board = s.board := rfl
@[simp] theorem decodeStep_freeCount : (decodeStep s).freeCount = s.freeCount := rfl

end Sys2Proof.Machine
end

