-- ==== Sys2Proof/Laws/Ops.lean ====
section
/-! SUPPORT. One lemma for each shared operation that says once everything it can do. -/

namespace Sys2Proof.Machine

variable (s : State)

/-! ## Acceptance -/

/-- Everything `accept` can do (60_exceptions.md R143). -/
theorem accept_cases (n : Nat) (body : State → State) :
    (s.fault = true ∧ accept n body s = refuse n s) ∨
    (s.fault = false ∧ s.busy = true ∧ accept n body s = raise .busyViolation n s) ∨
    (s.fault = false ∧ s.busy = false ∧ accept n body s = body s) := by
  unfold accept
  cases s.fault <;> cases s.busy <;> simp

theorem accept_ready (n : Nat) (body : State → State) (hf : s.fault = false) (hb : s.busy = false) :
    accept n body s = body s := by simp [accept, hf, hb]

theorem accept_faulted (n : Nat) (body : State → State) (hf : s.fault = true) :
    accept n body s = refuse n s := by simp [accept, hf]

theorem accept_busy (n : Nat) (body : State → State) (hf : s.fault = false) (hb : s.busy = true) :
    accept n body s = raise .busyViolation n s := by simp [accept, hf, hb]

/-! ## Field operations -/

/-- Everything the index check can do. -/
theorem indexed_cases (n : Nat) (r : FieldRow) (t f : BitVec 2) (body : State → State) :
    (indexOk r t f = true ∧ indexed n r t f body s = body s) ∨
    (indexOk r t f = false ∧ indexed n r t f body s = raise .indexRange n s) := by
  unfold indexed
  cases indexOk r t f <;> simp

/-- Everything a set can do after its index check. -/
theorem setBody_cases (r : FieldRow) (v : Scalar) (write : State → State) :
    (valueFits r v = true ∧ setBody r v write s = respond [] (write s)) ∨
    (valueFits r v = false ∧ setBody r v write s = raise .valueRange 0 s) := by
  unfold setBody
  cases valueFits r v <;> simp

theorem indexOk_iff (r : FieldRow) (t f : BitVec 2) :
    indexOk r t f = true ↔ t.toNat < r.nT ∧ f.toNat < r.nF := by simp [indexOk]

theorem valueFits_iff (r : FieldRow) (v : Scalar) : valueFits r v = true ↔ v.toNat < 2 ^ r.width := by
  simp [valueFits]

/-- GETO in a block that accepts requests. -/
theorem getOut_ready (x : OutField) (hf : s.fault = false) (hb : s.busy = false) :
    getOut x s = .next (respond (scalarBytes (bitRead s.outpkt (outRow x).a0 (outRow x).width)) s) := by
  simp only [getOut, accept_ready _ _ _ hf hb, getBody]

/-- Everything SETO can do in a block that accepts requests. -/
theorem setOut_ready (x : OutField) (v : Scalar) (hf : s.fault = false) (hb : s.busy = false) :
    setOut x v s = .next (if valueFits (outRow x) v
      then respond [] { s with outpkt := bitWrite s.outpkt (outRow x).a0 (outRow x).width v }
      else raise .valueRange 0 s) := by
  simp only [setOut, accept_ready _ _ _ hf hb, setBody]

/-- Everything GETI can do in a block that accepts requests. -/
theorem getIn_ready (x : InField) (t f : BitVec 2) (hf : s.fault = false) (hb : s.busy = false) :
    getIn x t f s = .next (if indexOk (inRow x) t f
      then respond (scalarBytes (bitRead s.inpkt (fieldAddr (inRow x) t f) (inRow x).width)) s
      else raise .indexRange 2 s) := by
  simp only [getIn, accept_ready _ _ _ hf hb, indexed, getBody]

/-- Everything SETI can do in a block that accepts requests. -/
theorem setIn_ready (x : InField) (t f : BitVec 2) (v : Scalar) (hf : s.fault = false) (hb : s.busy = false) :
    setIn x t f v s = .next (if indexOk (inRow x) t f
      then (if valueFits (inRow x) v
        then respond [] { s with inpkt := bitWrite s.inpkt (fieldAddr (inRow x) t f) (inRow x).width v }
        else raise .valueRange 0 s)
      else raise .indexRange 0 s) := by
  simp only [setIn, accept_ready _ _ _ hf hb, indexed, setBody]

/-! ## The exchange step -/

section
variable (r : Byte)

/-- Everything an exchange step can do. -/
theorem exchangeStep_cases :
    (s.idx.toNat < 95 ∧ exchangeStep r s = { s with
      inpkt := setByte s.inpkt s.idx.toNat r
      trace := s.trace ++ [BusEvent.xfer (txByte s s.idx.toNat) r]
      idx := s.idx + 1 }) ∨
    (95 ≤ s.idx.toNat ∧ exchangeStep r s = { s with
      inpkt := setByte s.inpkt s.idx.toNat r
      trace := s.trace ++ [BusEvent.xfer (txByte s s.idx.toNat) r]
      phase := .desel }) := by
  unfold exchangeStep advance
  by_cases h : s.idx.toNat < 95
  · exact .inl ⟨h, by simp [show s.idx.toNat + 1 < 96 by omega, capture]⟩
  · exact .inr ⟨by omega, by simp [show ¬s.idx.toNat + 1 < 96 by omega, capture]⟩

@[simp] theorem exchangeStep_outpkt : (exchangeStep r s).outpkt = s.outpkt := by unfold exchangeStep advance; split <;> rfl
@[simp] theorem exchangeStep_inpkt : (exchangeStep r s).inpkt = setByte s.inpkt s.idx.toNat r := by
  unfold exchangeStep advance; split <;> rfl
@[simp] theorem exchangeStep_busy : (exchangeStep r s).busy = s.busy := by unfold exchangeStep advance; split <;> rfl
@[simp] theorem exchangeStep_fault : (exchangeStep r s).fault = s.fault := by unfold exchangeStep advance; split <;> rfl
@[simp] theorem exchangeStep_fcode : (exchangeStep r s).fcode = s.fcode := by unfold exchangeStep advance; split <;> rfl
@[simp] theorem exchangeStep_sel : (exchangeStep r s).sel = s.sel := by unfold exchangeStep advance; split <;> rfl
@[simp] theorem exchangeStep_rsp : (exchangeStep r s).rsp = s.rsp := by unfold exchangeStep advance; split <;> rfl
@[simp] theorem exchangeStep_trace :
    (exchangeStep r s).trace = s.trace ++ [BusEvent.xfer (txByte s s.idx.toNat) r] := by
  unfold exchangeStep advance; split <;> rfl
@[simp] theorem exchangeStep_host : (exchangeStep r s).host = s.host := by unfold exchangeStep advance; split <;> rfl
@[simp] theorem exchangeStep_board : (exchangeStep r s).board = s.board := by unfold exchangeStep advance; split <;> rfl
@[simp] theorem exchangeStep_freeCount : (exchangeStep r s).freeCount = s.freeCount := by
  unfold exchangeStep advance; split <;> rfl

end

/-! ## Reset -/

@[simp] theorem selRelease_outpkt : (selRelease s).outpkt = s.outpkt := by unfold selRelease; split <;> rfl
@[simp] theorem selRelease_host : (selRelease s).host = s.host := by unfold selRelease; split <;> rfl
@[simp] theorem selRelease_board : (selRelease s).board = s.board := by unfold selRelease; split <;> rfl
@[simp] theorem selRelease_sel : (selRelease s).sel = false := by
  unfold selRelease; split <;> simp_all
@[simp] theorem selRelease_trace :
    (selRelease s).trace = s.trace ++ (if s.sel then [.selDeassert] else []) := by
  unfold selRelease; split <;> simp_all

@[simp] theorem resetBlock_outpkt : (resetBlock s).outpkt = zeroPacket := rfl
@[simp] theorem resetBlock_inpkt : (resetBlock s).inpkt = freePacket s.freeCount := rfl
@[simp] theorem resetBlock_phase : (resetBlock s).phase = .idle := rfl
@[simp] theorem resetBlock_idx : (resetBlock s).idx = 0#7 := rfl
@[simp] theorem resetBlock_busy : (resetBlock s).busy = false := rfl
@[simp] theorem resetBlock_fault : (resetBlock s).fault = false := rfl
@[simp] theorem resetBlock_fcode : (resetBlock s).fcode = 0#3 := rfl
@[simp] theorem resetBlock_sel : (resetBlock s).sel = false := selRelease_sel s
@[simp] theorem resetBlock_rsp : (resetBlock s).rsp = some ⟨false, []⟩ := rfl
@[simp] theorem resetBlock_trace :
    (resetBlock s).trace = s.trace ++ (if s.sel then [.selDeassert] else []) := selRelease_trace s
@[simp] theorem resetBlock_host : (resetBlock s).host = s.host := selRelease_host s
@[simp] theorem resetBlock_board : (resetBlock s).board = s.board := selRelease_board s
@[simp] theorem resetBlock_freeCount : (resetBlock s).freeCount = s.freeCount + 96 := rfl

/-- Every byte RST leaves in the Input Packet is a free value. -/
theorem byteAt_freePacket (k : Nat) {i : Nat} (h : i < 96) : byteAt (freePacket k) i = Config.freeByte (k + i) := by
  rw [byteAt_eq_getElem _ h]
  simp [freePacket]

/-! ## The sequencer -/

/-- Everything the sequencer can do (41_transaction.md R125). -/
theorem sequencerMove_cases :
    (s.fault = true ∧ sequencerMove s = .next s) ∨
    (s.fault = false ∧ s.phase = .idle ∧ sequencerMove s = .next s) ∨
    (s.fault = false ∧ s.phase = .xfer ∧ 95 < s.idx.toNat ∧ sequencerMove s = .fault .sequencerOffTable) ∨
    (s.fault = false ∧ s.phase = .xfer ∧ s.idx.toNat ≤ 95 ∧ s.board = [] ∧ sequencerMove s = .next s) ∨
    (∃ r rest, s.fault = false ∧ s.phase = .xfer ∧ s.idx.toNat ≤ 95 ∧ s.board = r :: rest ∧
      sequencerMove s = .next (exchangeStep r { s with board := rest })) ∨
    (s.fault = false ∧ s.phase = .desel ∧ sequencerMove s = .next (deselectStep s)) ∨
    (s.fault = false ∧ s.phase = .decode ∧ sequencerMove s = .next (decodeStep s)) := by
  unfold sequencerMove
  cases hf : s.fault
  · cases hp : s.phase
    · simp
    · by_cases hi : s.idx.toNat < 96
      · cases hb : s.board with
        | nil => simp [hi, show s.idx.toNat ≤ 95 by omega]
        | cons r rest => simp [hi, show s.idx.toNat ≤ 95 by omega]
      · simp [hi, show 95 < s.idx.toNat by omega]
    · simp
    · simp
  · simp

/-- The d-pad table of 41_transaction.md R118. -/
theorem dpadDecode_table (c : BitVec 4) :
    dpadDecode c = [1, 3, 2, 6, 4, 12, 8, 9, 0, 0, 0, 0, 0, 0, 0, 0].getD c.toNat (0 : BitVec 4) := by
  revert c; decide

/-- The decode step writes byte 13 only. -/
theorem byteAt_decodeDpad_other (p : InPacket) {i : Nat} (h : i ≠ 13) : byteAt (decodeDpad p) i = byteAt p i :=
  byteAt_setByte_other _ _ (by simp [dpadByte]; omega)

end Sys2Proof.Machine
end

