-- ==== Sys2Proof/Laws/Step.lean ====
section
/-! SUPPORT. One step of the machine, case by case. -/

namespace Sys2Proof.Machine

variable {s : State}

theorem step_request {r : Request} {rest : List (Option Request)} (h : s.host = some r :: rest) :
    step s = serve r { s with host := rest } := by simp [step, runStep, h]

theorem step_quiet {rest : List (Option Request)} (h : s.host = none :: rest) :
    step s = sequencerMove { s with host := rest } := by simp [step, runStep, h]

theorem step_end (h : s.host = []) :
    step s = if awaitsTransport s then .fault .transportSilent else sequencerMove s := by
  simp [step, runStep, h]

theorem serve_instr {r : Request} {i : Instr} (h : decode r = .ok i) (s : State) : serve r s = exec i s := by
  simp [serve, h]

theorem serve_error {r : Request} {e : DecodeError} (h : decode r = .error e) (s : State) :
    serve r s = .next (rejectRequest e (responseLength (opOf r.word)) s) := by
  simp [serve, h]

/-- Everything one step can do: a form's meaning, a rejected request, or the sequencer's move, each on the state whose
`host` has lost the entry of this step. -/
theorem step_cases {s s' : State} (h : step s = .next s') :
    (∃ x, execForm x { s with host := s.host.tail } = .next s') ∨
    (∃ e n, s' = rejectRequest e n { s with host := s.host.tail }) ∨
    sequencerMove { s with host := s.host.tail } = .next s' := by
  cases hh : s.host with
  | nil =>
    rw [step_end hh] at h
    have hs : ({ s with host := [] } : State) = s := by rw [← hh]
    split at h
    · cases h
    · exact .inr (.inr (by simpa [hs] using h))
  | cons o rest =>
    cases o with
    | none => rw [step_quiet hh] at h; exact .inr (.inr h)
    | some r =>
      rw [step_request hh, serve] at h
      cases hd : decode r with
      | ok i => simp only [hd, exec_eq_execForm] at h; exact .inl ⟨_, h⟩
      | error e => simp only [hd] at h; cases h; exact .inr (.inl ⟨e, _, rfl⟩)

end Sys2Proof.Machine
end

