-- ==== Sys2Proof/Laws/Run.lean ====
section
/-! SUPPORT. Runs: one step peeled off, two runs put together; steps in which the host is quiet; the bus trace. -/

namespace Sys2Proof.Machine

variable {k : Nat} {s u : State}

/-- The first step of a run of any machine. -/
theorem coreRun_next (M : Host.Core) {k : Nat} {s u : M.State} (h : M.step s = .next u) :
    M.run (k + 1) s = M.run k u := by simp only [Host.Core.run, h]

theorem run_zero (s : State) : run 0 s = .next s := rfl

/-- The first step of a run. -/
theorem run_next (h : step s = .next u) : run (k + 1) s = run k u := coreRun_next Sys2Proof.core h

/-- A run of `j` steps of any machine and then one of `k`. -/
theorem coreRun_add (M : Host.Core) (j k : Nat) {s u : M.State} (h : M.run j s = .next u) :
    M.run (j + k) s = M.run k u := by
  induction j generalizing s with
  | zero => cases h; rw [Nat.zero_add]
  | succ j ih =>
    rw [Nat.add_right_comm]
    cases hs : M.step s with
    | next t =>
      rw [coreRun_next M hs] at h ⊢
      exact ih h
    | fault c => simp only [Host.Core.run, hs] at h; cases h
    | refused c => simp only [Host.Core.run, hs] at h; cases h

/-- A run of `j` steps and then one of `k`. -/
theorem run_add (j k : Nat) {s u : State} (h : run j s = .next u) : run (j + k) s = run k u :=
  coreRun_add Sys2Proof.core j k h

theorem quiet_tail {k : Nat} {host : List (Option Request)} (h : quiet (k + 1) host) :
    quiet k host.tail := by
  cases host with
  | nil => simp [quiet]
  | cons o rest => exact fun r hr => h r (by simp only [List.take_succ_cons]; exact List.mem_cons_of_mem _ hr)

theorem quiet_mono {j k : Nat} {host : List (Option Request)} (h : quiet k host) (hjk : j ≤ k) : quiet j host :=
  fun r hr => h r (List.take_subset_take_left host hjk hr)

theorem awaitsTransport_iff (s : State) :
    awaitsTransport s = true ↔ s.phase = .xfer ∧ s.fault = false ∧ s.board = [] := by
  simp [awaitsTransport]
  tauto

/-- A step in which the host presents nothing is the sequencer's, unless nothing will ever happen again. -/
theorem step_sequencer (h : quiet 1 s.host) (ha : awaitsTransport s = false ∨ s.host ≠ []) :
    step s = sequencerMove { s with host := s.host.tail } := by
  cases hh : s.host with
  | nil =>
    have hs : ({ s with host := [] } : State) = s := by rw [← hh]
    rw [step_end hh, List.tail_nil, hs, if_neg]
    rcases ha with ha | ha
    · simp [ha]
    · exact absurd hh ha
  | cons o rest =>
    have : o = none := h o (by simp [hh])
    subst this
    exact step_quiet hh

theorem traceLevel_append (b : Bool) (xs ys : List BusEvent) :
    traceLevel b (xs ++ ys) = traceLevel (traceLevel b xs) ys := by
  induction xs generalizing b with
  | nil => rfl
  | cons x xs ih => cases x <;> simp [traceLevel, ih]

theorem traceOrderly_append (b : Bool) (xs ys : List BusEvent) :
    traceOrderly b (xs ++ ys) = (traceOrderly b xs && traceOrderly (traceLevel b xs) ys) := by
  induction xs generalizing b with
  | nil => simp [traceOrderly, traceLevel]
  | cons x xs ih => cases x <;> simp [traceOrderly, traceLevel, ih, Bool.and_assoc]

end Sys2Proof.Machine
end

