-- ==== Sys2Proof/Laws/View.lean ====
section
/-! SUPPORT. The laws of the two conversions: what writing bits and slots does to one bit, and that a raw value survives
its typed value. -/

namespace Sys2Proof.Machine

variable {n : Nat}

/-- Writing bits leaves every address that is not among them alone. -/
theorem bitAt_writeBits_other (p : Packet n) (as : List Nat) (bs : List Bool) {a : Nat} (h : a ∉ as) :
    bitAt (writeBits p as bs) a = bitAt p a := by
  induction as generalizing p bs with
  | nil => simp [writeBits]
  | cons b as ih =>
    cases bs with
    | nil => simp [writeBits]
    | cons c cs =>
      simp only [writeBits]
      rw [ih _ _ (fun hc => h (List.mem_cons_of_mem _ hc)), bitAt_setBit, if_neg]
      rintro ⟨rfl, -⟩
      exact h (by simp)

/-- Writing slots leaves every address outside them alone. -/
theorem bitAt_writeSlots_other (p : Packet n) (xs : List Slot) (vs : List FieldValue) {a : Nat}
    (h : ∀ x ∈ xs, ¬(x.addr ≤ a ∧ a < x.addr + x.width)) : bitAt (writeSlots p xs vs) a = bitAt p a := by
  induction xs generalizing p vs with
  | nil => simp [writeSlots]
  | cons x xs ih =>
    cases vs with
    | nil => simp [writeSlots]
    | cons v vs =>
      have hx := h x (by simp)
      simp only [writeSlots]
      rw [ih _ _ (fun y hy => h y (List.mem_cons_of_mem _ hy)), bitAt_bitWrite, if_neg (by omega)]

/-- `signed_16` is the two's-complement value. -/
theorem signed16_eq_toInt (v : Scalar) : signed16 v = v.toInt := by
  simp only [signed16, BitVec.toInt_eq_toNat_cond]
  split <;> split <;> first | rfl | omega

/-- What UNPACK puts in the place of one slot (40_codec_access.md R100). -/
theorem unpack_value (slots : List Slot) (resv : List Nat) (p : Packet n) (k : Nat) :
    (unpack slots resv p).values[k]? = slots[k]?.map fun x => typedValue x.type (bitRead p x.addr x.width) := by
  simp [unpack]

theorem ofInt_signed16 (v : Scalar) : BitVec.ofInt 16 (signed16 v) = v := by
  rw [signed16_eq_toInt, BitVec.ofInt_toInt]

end Sys2Proof.Machine
end

