-- ==== Sys2Proof/Tests/Slice0.lean ====
section
/-! SUPPORT. Tests: what WellFormed refuses, request words written out from 30_encoding.md R81 and R82, the test vectors
of 95_test_vectors.md (hand-computed in the spec from its rules), and for each statement with hypotheses a state and
operands that meet them. -/

namespace Sys2Proof.Tests

set_option Elab.async false

open Sys2Proof Sys2Proof.Machine

/-! ## Helpers -/

/-- The next state of a result. -/
def nextOf : Result → Option State
  | .next s => some s
  | _ => none

/-- A packet of zeros but for the bytes listed. -/
def bytes {n : Nat} (l : List (Nat × Byte)) : Packet n := l.foldl (fun p x => setByte p x.1 x.2) zeroPacket

/-- An idle block with these bytes in its packets. -/
def block (o i : List (Nat × Byte)) : State := { State.reset with outpkt := bytes o, inpkt := bytes i }

/-- The reset block to which the host presents `h`. -/
def hosted (h : List (Option Request)) : State := { State.reset with host := h }

/-- A block inside a transaction, about to exchange the byte of position `i`. -/
def midway (i : BitVec 7) (board : List Byte) (h : List (Option Request)) : State :=
  { State.reset with
    phase := .xfer, idx := i, busy := true, sel := true, trace := [.selAssert], board := board, host := h }

/-- A block that has faulted with IndexRange. -/
def faulty (h : List (Option Request)) : State :=
  { State.reset with fault := true, fcode := 1, rsp := some ⟨true, [0, 0]⟩, host := h }

/-- The Output Packet after an instruction. -/
def outAfter (i : Instr) (s : State) : Option OutPacket := (nextOf (exec i s)).map (·.outpkt)

/-- The Input Packet after an instruction. -/
def inAfter (i : Instr) (s : State) : Option InPacket := (nextOf (exec i s)).map (·.inpkt)

/-- The response to an instruction. -/
def answer (i : Instr) (s : State) : Option Response := ((nextOf (exec i s)).map (·.rsp)).join

/-- FAULT, FCODE and the response after the reset block has served a request. -/
def serveReset (word : BitVec 16) (payload : List Byte) : Option (Bool × BitVec 3 × Option Response) :=
  (nextOf (step (hosted [some ⟨word, payload⟩]))).map fun s => (s.fault, s.fcode, s.rsp)

/-! ## WellFormed refuses -/

/-- R78: a touchpad sub-record index 3. -/
theorem test_wf_refuses_subrecord_index : Instr.wellFormed (.getiTouchX 3 0) = false := by decide

/-- R78: a finger index 2. -/
theorem test_wf_refuses_finger_index : Instr.wellFormed (.setiTouchX 0 2 1) = false := by decide

/-- R78: an index on a field that has none. -/
theorem test_wf_refuses_index_on_plain_field : Instr.wellFormed (.getiReportId 1 0) = false := by decide

/-- R79: the value 2 for one bit of the Output Packet. -/
theorem test_wf_refuses_overwide_out_value : Instr.wellFormed (.setoOvrLed 2) = false := by decide

/-- R79: the value 4096 for twelve bits of the Input Packet. -/
theorem test_wf_refuses_overwide_in_value : Instr.wellFormed (.setiTouchX 0 0 4096) = false := by decide

/-- R86: a reserved operation code. -/
theorem test_wf_refuses_reserved_operation : Instr.wellFormed (.reservedOpD 0x123) = false := by decide

/-- The nearest well-formed neighbours of the six. -/
theorem test_wf_accepts_neighbours :
    Instr.wellFormed (.getiTouchX 2 0) = true ∧ Instr.wellFormed (.setiTouchX 0 1 1) = true ∧
    Instr.wellFormed (.getiReportId 0 0) = true ∧ Instr.wellFormed (.setoOvrLed 1) = true ∧
    Instr.wellFormed (.setiTouchX 0 0 4095) = true ∧ Instr.wellFormed .exec = true := by decide

/-! ## Decoding: words written out field by field, OP F T FID (R81) -/

theorem test_decode_geto : decode ⟨0b0001_00_00_00101000, []⟩ = .ok .getoPwLStickX := by rfl
theorem test_decode_seto : decode ⟨0b0010_00_00_00010100, [0x01, 0x00]⟩ = .ok (.setoOvrCross 1) := by rfl
theorem test_decode_geti : decode ⟨0b0011_01_10_00100110, []⟩ = .ok (.getiTouchX 2 1) := by rfl
theorem test_decode_seti : decode ⟨0b0100_01_10_00100111, [0xEF, 0x0D]⟩ = .ok (.setiTouchY 2 1 0xDEF) := by rfl
theorem test_decode_rdo : decode ⟨0b0101_000000000000, []⟩ = .ok .rdo := by rfl
theorem test_decode_wro : decode ⟨0b0110_000000000000, List.replicate 39 0xFF⟩ =
    .ok (.wro (Vector.replicate 39 0xFF)) := by decide +kernel
theorem test_decode_rdi : decode ⟨0b0111_000000000000, []⟩ = .ok .rdi := by rfl
theorem test_decode_wri : decode ⟨0b1000_000000000000, List.replicate 96 0xA5⟩ =
    .ok (.wri (Vector.replicate 96 0xA5)) := by decide +kernel
theorem test_decode_setind : decode ⟨0b1001_000000000000, [0xFF, 0x80, 0x00, 0x0A, 0x14]⟩ =
    .ok (.setind 255 128 0 10 20) := by rfl
theorem test_decode_exec : decode ⟨0b1010_000000000000, []⟩ = .ok .exec := by rfl
theorem test_decode_rst : decode ⟨0b1011_000000000000, []⟩ = .ok .rst := by rfl
theorem test_decode_reserved_0 : decode ⟨0b0000_000000000001, []⟩ = .ok (.reservedOp0 1) := by rfl
theorem test_decode_reserved_c : decode ⟨0b1100_000000000000, []⟩ = .ok (.reservedOpC 0) := by rfl
theorem test_decode_reserved_d : decode ⟨0b1101_000100100011, []⟩ = .ok (.reservedOpD 0x123) := by rfl
theorem test_decode_reserved_e : decode ⟨0b1110_000000000000, []⟩ = .ok (.reservedOpE 0) := by rfl
theorem test_decode_reserved_f : decode ⟨0b1111_111111111111, []⟩ = .ok (.reservedOpF 0xFFF) := by rfl

/-- R84: the 70 words of GETO and the 70 of GETI, FID 0x00 to 0x45, decode in the order of the tables R55 to R75, and the
FID 0x46 above them does not. -/
theorem test_decode_every_fid :
    (List.range 71).map (fun k => decode ⟨wordOf 1 0 0 (BitVec.ofNat 8 k), []⟩) =
      outFields.map (fun x => .ok (Instr.ofForm (.geto x))) ++ [.error .unknownField] ∧
    (List.range 71).map (fun k => decode ⟨wordOf 3 0 0 (BitVec.ofNat 8 k), []⟩) =
      inFields.map (fun x => .ok (Instr.ofForm (.geti x 0 0))) ++ [.error .unknownField] := by
  decide +kernel

/-- The same for the 70 words of SETO and the 70 of SETI, with the payload 1, 0. -/
theorem test_decode_every_fid_set :
    (List.range 70).map (fun k => decode ⟨wordOf 2 0 0 (BitVec.ofNat 8 k), [1, 0]⟩) =
      outFields.map (fun x => .ok (Instr.ofForm (.seto x 1))) ∧
    (List.range 70).map (fun k => decode ⟨wordOf 4 2 1 (BitVec.ofNat 8 k), [1, 0]⟩) =
      inFields.map (fun x => .ok (Instr.ofForm (.seti x 1 2 1))) := by
  decide +kernel

/-- Names and FIDs as in the tables R55 to R75, at the places where the runs of fields meet. -/
theorem test_names_at_table_positions :
    outLookup 0x00 = some .ovrLed ∧ outLookup 0x0E = some .ovrTiltY ∧ outLookup 0x0F = some .ovrDPadUp ∧
    outLookup 0x20 = some .ovrTpadPress ∧ outLookup 0x21 = some .ledRed ∧ outLookup 0x27 = some .rumbleHigh ∧
    outLookup 0x28 = some .pwLStickX ∧ outLookup 0x33 = some .pwTiltY ∧ outLookup 0x34 = some .stDPadUp ∧
    outLookup 0x45 = some .stTpadPress ∧ inLookup 0x00 = some .reportId ∧ inLookup 0x05 = some .dPadUp ∧
    inLookup 0x16 = some .tpadPress ∧ inLookup 0x17 = some .counter ∧ inLookup 0x1A = some .gyroX ∧
    inLookup 0x1F = some .accelZ ∧ inLookup 0x20 = some .battery ∧ inLookup 0x23 = some .tpadCounter ∧
    inLookup 0x27 = some .touchY ∧ inLookup 0x28 = some .echoLStickX ∧ inLookup 0x33 = some .echoTiltY ∧
    inLookup 0x34 = some .echoBtnDPadUp ∧ inLookup 0x45 = some .echoBtnTpadPress := by decide

/-- The table's numbering: a SETO word with its payload above it, and a WRO whose payload bits are all zero. -/
theorem test_decode_table_word :
    decodeTableWord 32 0x00012014 = some (.setoOvrCross 1) ∧
    decodeTableWord 16 0x6000 = some (.wro (Vector.replicate 39 0)) ∧
    decodeTableWord 16 0x1046 = none ∧ decodeTableWord 16 0xA001 = none := by decide +kernel

/-! ## Test vectors V1 to V14: GETO, SETO -/

theorem test_V1 : outAfter (.setoOvrLed 1) (block [] []) =
    some (bytes [(0, 0x01)]) := by decide +kernel
theorem test_V2 : outAfter (.setoOvrRStickX 0) (block [(0, 0xFF)] []) =
    some (bytes [(0, 0xDF)]) := by decide +kernel
theorem test_V3 : outAfter (.setoOvrL2Analog 1) (block [] []) =
    some (bytes [(0, 0x80)]) := by decide +kernel
theorem test_V4 : outAfter (.setoOvrR2Analog 1) (block [] []) =
    some (bytes [(1, 0x01)]) := by decide +kernel
theorem test_V5 : outAfter (.setoOvrDPadUp 1) (block [] []) =
    some (bytes [(1, 0x80)]) := by decide +kernel
theorem test_V6 : outAfter (.setoOvrTpadPress 1) (block [(4, 0xFE)] []) =
    some (bytes [(4, 0xFF)]) := by decide +kernel
theorem test_V7 : outAfter (.setoPwLStickX 1500) (block [] []) =
    some (bytes [(12, 0xDC), (13, 0x05)]) := by decide +kernel
theorem test_V8 : outAfter (.setoPwTiltY 65535) (block [] []) =
    some (bytes [(34, 0xFF), (35, 0xFF)]) := by decide +kernel
theorem test_V10 : outAfter (.setoStDPadUp 1) (block [] []) =
    some (bytes [(36, 0x01)]) := by decide +kernel
theorem test_V11 : outAfter (.setoStTpadPress 1) (block [(38, 0xFC)] []) =
    some (bytes [(38, 0xFE)]) := by decide +kernel
theorem test_V12 : outAfter (.setoStL1 1) (block [] []) =
    some (bytes [(37, 0x01)]) := by decide +kernel
theorem test_V13 : outAfter (.setoRumbleLow 255) (block [] []) =
    some (bytes [(10, 0xFF)]) := by decide +kernel
theorem test_R91_example : outAfter (.setoOvrCross 1) (block [] []) =
    some (bytes [(2, 0x10)]) := by decide +kernel
theorem test_V60 : outAfter (.setind 255 128 0 10 20) (block [] []) =
    some (bytes [(5, 0xFF), (6, 0x80), (8, 0x0A), (9, 0x14)]) := by decide +kernel
theorem test_V61 : outAfter (.setind 0 0 0 0 0) (block [(4, 0x7F), (6, 0x55), (10, 0x33)] []) =
    some (bytes [(4, 0x7F), (10, 0x33)]) := by decide +kernel
theorem test_V9 : answer .getoPwLStickX (block [(12, 0xDC), (13, 0x05)] []) = some ⟨false, [0xDC, 0x05]⟩ := by
  decide +kernel
theorem test_V14 : answer .getoOvrRumbleLow (block [(0, 0x01), (5, 0x7F)] []) = some ⟨false, [0, 0]⟩ := by decide +kernel

/-! ## V15 to V29: GETI, SETI -/

theorem test_V15 : answer (.getiPs 0 0) (block [] [(15, 0xAB)]) =
    some ⟨false, [0x01, 0x00]⟩ := by decide +kernel
theorem test_V16 : answer (.getiTpadPress 0 0) (block [] [(15, 0xAB)]) =
    some ⟨false, [0x01, 0x00]⟩ := by decide +kernel
theorem test_V17 : answer (.getiCounter 0 0) (block [] [(15, 0xAB)]) =
    some ⟨false, [0x2A, 0x00]⟩ := by decide +kernel
theorem test_V18 : answer (.getiBattery 0 0) (block [] [(38, 0xFB)]) =
    some ⟨false, [0x0B, 0x00]⟩ := by decide +kernel
theorem test_V19 : answer (.getiUsbPresent 0 0) (block [] [(38, 0xFB)]) =
    some ⟨false, [0x01, 0x00]⟩ := by decide +kernel
theorem test_V20 : answer (.getiGyroZ 0 0) (block [] [(25, 0x00), (26, 0x80)]) =
    some ⟨false, [0x00, 0x80]⟩ := by decide +kernel
theorem test_V21 : answer (.getiGyroX 0 0) (block [] [(21, 0xFF), (22, 0xFF)]) =
    some ⟨false, [0xFF, 0xFF]⟩ := by decide +kernel
theorem test_V22 : answer (.getiAccelY 0 0) (block [] [(29, 0x34), (30, 0x12)]) =
    some ⟨false, [0x34, 0x12]⟩ := by decide +kernel
theorem test_V23_x : answer (.getiTouchX 0 1) (block [] [(47, 0xFF), (48, 0xFF), (49, 0x0F)]) =
    some ⟨false, [0xFF, 0x0F]⟩ := by decide +kernel
theorem test_V23_y : answer (.getiTouchY 0 1) (block [] [(47, 0xFF), (48, 0xFF), (49, 0x0F)]) =
    some ⟨false, [0x00, 0x00]⟩ := by decide +kernel
theorem test_V23_id : answer (.getiTouchId 0 1) (block [] [(47, 0xFF), (48, 0xFF), (49, 0x0F)]) =
    some ⟨false, [0x7F, 0x00]⟩ := by decide +kernel
theorem test_V23_contact : answer (.getiNoContact 0 1) (block [] [(47, 0xFF), (48, 0xFF), (49, 0x0F)]) =
    some ⟨false, [0x01, 0x00]⟩ := by decide +kernel
theorem test_V24_x : answer (.getiTouchX 1 0) (block [] [(52, 0x01), (54, 0xF0), (55, 0xFF)]) =
    some ⟨false, [0x00, 0x00]⟩ := by decide +kernel
theorem test_V24_y : answer (.getiTouchY 1 0) (block [] [(52, 0x01), (54, 0xF0), (55, 0xFF)]) =
    some ⟨false, [0xFF, 0x0F]⟩ := by decide +kernel
theorem test_V28 : answer (.getiEchoLStickX 0 0) (block [] [(69, 0xE8), (70, 0x03)]) =
    some ⟨false, [0xE8, 0x03]⟩ := by decide +kernel
theorem test_V29_options : answer (.getiEchoBtnOptions 0 0) (block [] [(93, 0x09), (94, 0x80), (95, 0xFF)]) =
    some ⟨false, [0x01, 0x00]⟩ := by decide +kernel
theorem test_V29_left : answer (.getiEchoBtnDPadLeft 0 0) (block [] [(93, 0x09), (94, 0x80), (95, 0xFF)]) =
    some ⟨false, [0x01, 0x00]⟩ := by decide +kernel
theorem test_V29_press : answer (.getiEchoBtnTpadPress 0 0) (block [] [(93, 0x09), (94, 0x80), (95, 0xFF)]) =
    some ⟨false, [0x01, 0x00]⟩ := by decide +kernel
theorem test_P2_tpadCounter : answer (.getiTpadCounter 2 0) (block [] [(42, 0x10), (51, 0x11), (60, 0x12)]) =
    some ⟨false, [0x12, 0x00]⟩ := by decide +kernel
theorem test_R97_example : answer (.getiBattery 0 0) (block [] [(38, 0x1B)]) =
    some ⟨false, [0x0B, 0x00]⟩ := by decide +kernel
theorem test_V25 : inAfter (.setiTouchX 2 1 0xABC) (block [] []) =
    some (bytes [(66, 0xBC), (67, 0x0A)]) := by decide +kernel
theorem test_V25_high_nibble : inAfter (.setiTouchX 2 1 0xABC) (block [] [(67, 0xF0)]) =
    some (bytes [(66, 0xBC), (67, 0xFA)]) := by decide +kernel
theorem test_V26 : inAfter (.setiTouchY 2 1 0xDEF) (block [] [(66, 0xBC), (67, 0x0A)]) =
    some (bytes [(66, 0xBC), (67, 0xFA), (68, 0xDE)]) := by decide +kernel
theorem test_V27 : inAfter (.setiDPadUp 0 0 1) (block [] []) =
    some (bytes [(13, 0x01)]) := by decide +kernel

/-! ## Raw operations -/

theorem test_rdo_order : answer .rdo (block [(0, 1), (38, 2)] []) = some ⟨false, 1 :: List.replicate 37 0 ++ [2]⟩ := by
  decide +kernel
theorem test_rdi_order : answer .rdi (block [] [(0, 1), (95, 2)]) = some ⟨false, 1 :: List.replicate 94 0 ++ [2]⟩ := by
  decide +kernel

/-- R95: `b[i] = i`, hence `pwLStickX = 12 + 256 * 13`. -/
theorem test_wro_counting : (outAfter (.wro (Vector.ofFn fun i => BitVec.ofNat 8 i.val)) (block [] [])).map
    (fun p => (bitRead p (outRow .pwLStickX).a0 16).toNat) = some 3340 := by decide +kernel

/-- V30, V33, V34, V35: `b[i] = i`; byte 13 is not decoded. -/
theorem test_wri_counting : (inAfter (.wri (Vector.ofFn fun i => BitVec.ofNat 8 i.val)) (block [] [])).map
    (fun p => (byteAt p 13, (bitRead p (inRow .gyroX).a0 16).toNat, (bitRead p (inRow .touchX).a0 12).toNat,
      (bitRead p (inRow .touchY).a0 12).toNat)) = some (0x0D, 5653, 3372, 738) := by decide +kernel

/-! ## The transaction -/

/-- V40 to V55: the stored byte 13 for the raw codes 0 to 15 under the face nibble A; and `FF` gives `F0`. -/
theorem test_V40_to_V55 :
    ((List.range 16).map fun c => byteAt (decodeDpad (bytes [(13, BitVec.ofNat 8 (0xA0 + c))])) 13) =
      [0xA1, 0xA3, 0xA2, 0xA6, 0xA4, 0xAC, 0xA8, 0xA9, 0xA0, 0xA0, 0xA0, 0xA0, 0xA0, 0xA0, 0xA0, 0xA0] ∧
    byteAt (decodeDpad (bytes [(13, 0xFF)])) 13 = 0xF0 := by decide +kernel

theorem test_exec_selects : (nextOf (exec .exec (block [] []))).map
    (fun s => (s.busy, s.sel, s.phase, s.idx, s.trace)) = some (true, true, .xfer, 0, [.selAssert]) := by decide +kernel

/-- R121: byte 38 of the Output Packet is the last one sent; position 39 carries the padding. -/
theorem test_exchange_bytes :
    (nextOf (step { midway 38 [0x11] [] with outpkt := bytes [(38, 0x02)] })).map (·.trace) =
      some [.selAssert, .xfer 0x02 0x11] ∧
    (nextOf (step (midway 39 [0x11] []))).map (·.trace) = some [.selAssert, .xfer 0xCD 0x11] := by decide +kernel

/-- R114: the last exchange ends the loop. -/
theorem test_last_exchange : (nextOf (step (midway 95 [0x11] []))).map
    (fun s => (s.phase, byteAt s.inpkt 95, s.board)) = some (.desel, 0x11, []) := by decide +kernel

theorem test_deselect : (nextOf (step { midway 95 [] [] with phase := .desel })).map
    (fun s => (s.phase, s.sel, s.busy, s.trace)) = some (.decode, false, true, [.selAssert, .selDeassert]) := by
  decide +kernel

/-- P2: received `27`, stored `29`; EXEC answers. -/
theorem test_decode_step :
    (nextOf (step { midway 95 [] [] with phase := .decode, sel := false, inpkt := bytes [(13, 0x27)] })).map
      (fun s => (byteAt s.inpkt 13, s.phase, s.busy, s.rsp)) = some (0x29, .idle, false, some ⟨false, []⟩) := by
  decide +kernel

/-- P6: a SETO at `IDX = 40`: BusyViolation. -/
theorem test_P6_fault :
    (nextOf (step (midway 40 [0x11] [some ⟨0x2000, [1, 0]⟩]))).map (fun s => (s.fault, s.fcode, s.rsp)) =
      some (true, 5, some ⟨true, []⟩) := by decide +kernel

/-- P6: everything else stands still. -/
theorem test_P6_freeze :
    (nextOf (step (midway 40 [0x11] [some ⟨0x2000, [1, 0]⟩]))).map
      (fun s => (s.phase, s.idx, s.sel, byteAt s.outpkt 0, s.board)) = some (.xfer, 40, true, 0, [0x11]) := by decide +kernel

/-! ## Faults -/

theorem test_V70 : serveReset 0x3326 [] = some (true, 1, some ⟨true, [0, 0]⟩) := by decide +kernel
theorem test_V71 : serveReset 0x3826 [] = some (true, 1, some ⟨true, [0, 0]⟩) := by decide +kernel
theorem test_V72 : serveReset 0x3423 [] = some (true, 1, some ⟨true, [0, 0]⟩) := by decide +kernel
theorem test_V73 : serveReset 0x3100 [] = some (true, 1, some ⟨true, [0, 0]⟩) := by decide +kernel
theorem test_V74 : serveReset 0x1428 [] = some (true, 1, some ⟨true, [0, 0]⟩) := by decide +kernel
theorem test_V75 : serveReset 0x1046 [] = some (true, 2, some ⟨true, [0, 0]⟩) := by decide +kernel
theorem test_V76 : serveReset 0x30FF [] = some (true, 2, some ⟨true, [0, 0]⟩) := by decide +kernel
theorem test_V77 : serveReset 0x2000 [2, 0] = some (true, 3, some ⟨true, []⟩) := by decide +kernel
theorem test_V78 : serveReset 0x2021 [0, 1] = some (true, 3, some ⟨true, []⟩) := by decide +kernel
theorem test_V79 : serveReset 0x4026 [0, 16] = some (true, 3, some ⟨true, []⟩) := by decide +kernel
theorem test_V80 : serveReset 0x4024 [128, 0] = some (true, 3, some ⟨true, []⟩) := by decide +kernel
theorem test_V81 : serveReset 0x4017 [64, 0] = some (true, 3, some ⟨true, []⟩) := by decide +kernel
theorem test_V82 : serveReset 0x4326 [255, 255] = some (true, 1, some ⟨true, []⟩) := by decide +kernel
theorem test_V83 : serveReset 0x2150 [0, 0] = some (true, 2, some ⟨true, []⟩) := by decide +kernel
theorem test_V84 : serveReset 0x0000 [] = some (true, 4, some ⟨true, []⟩) := by decide +kernel
theorem test_V85_D123 : serveReset 0xD123 [] = some (true, 4, some ⟨true, []⟩) := by decide +kernel
theorem test_V85_FFFF : serveReset 0xFFFF [] = some (true, 4, some ⟨true, []⟩) := by decide +kernel
theorem test_V86 : serveReset 0xA001 [] = some (true, 4, some ⟨true, []⟩) := by decide +kernel
theorem test_V87 : serveReset 0xB001 [] = some (true, 4, some ⟨true, []⟩) := by decide +kernel
theorem test_V62 : serveReset 0x9001 [1, 2, 3, 4, 5] = some (true, 4, some ⟨true, []⟩) := by decide +kernel

/-- V70 to V81: the nearest accepted requests raise nothing. -/
theorem test_nearest_accepted :
    ([⟨0x3226, []⟩, ⟨0x3426, []⟩, ⟨0x3023, []⟩, ⟨0x3000, []⟩, ⟨0x1028, []⟩, ⟨0x1045, []⟩, ⟨0x2000, [1, 0]⟩,
      ⟨0x2021, [0xFF, 0]⟩, ⟨0x4026, [0xFF, 0x0F]⟩, ⟨0x4024, [0x7F, 0]⟩, ⟨0x4017, [0x3F, 0]⟩] : List Request).map
      (fun r => (serveReset r.word r.payload).map (·.1)) = List.replicate 11 (some false) := by decide +kernel

/-- R95, R97: a payload of the wrong length is refused, before the FID is looked at. -/
theorem test_wrong_length :
    ([⟨0x6000, List.replicate 38 0⟩, ⟨0x8000, List.replicate 97 0⟩, ⟨0x2050, [0]⟩, ⟨0x5000, [0]⟩] : List Request).map
      (fun r => (serveReset r.word r.payload).map (·.2.1)) = List.replicate 4 (some 4) := by decide +kernel

/-- V89: a faulted block refuses; its code stays. -/
theorem test_V89 : (nextOf (step (faulty [some ⟨0x2000, [1, 0]⟩]))).map
    (fun s => (s.fault, s.fcode, s.rsp, byteAt s.outpkt 0)) = some (true, 1, some ⟨true, []⟩, 0) := by decide +kernel

/-- V90, V95: RST. (What it leaves in the Input Packet is free and is not looked at.) -/
theorem test_V90_V95 : (nextOf (step { faulty [some ⟨0xB000, []⟩] with outpkt := bytes [(3, 0xFF)], sel := true })).map
    (fun s => (s.fault, s.fcode, s.sel, s.outpkt, s.trace)) = some (false, 0, false, bytes [], [.selDeassert]) := by
  decide +kernel

/-! ## Witnesses: a state and operands that meet the hypotheses of each statement -/

theorem ready_reset : State.reset.ready := ⟨rfl, rfl⟩

theorem witness_StepRunsDecodedInstruction :
    (hosted [some ⟨0x5000, []⟩, none]).presents ⟨0x5000, []⟩ [none] ∧ decode ⟨0x5000, []⟩ = .ok .rdo ∧
    decode (requestOfBits 16 0x5000) = .ok .rdo := ⟨rfl, rfl, rfl⟩

theorem witness_EncodeDecodeAgree : decode ⟨0x4F26, [0xFF, 0xFF]⟩ = .ok (.setiTouchX 3 3 0xFFFF) := by rfl

/-- One request for each cause and one for none, presented to a ready, a busy and a faulted block. -/
theorem witness_FaultPriority :
    (hosted [some ⟨0x2000, [2, 0]⟩]).presents ⟨0x2000, [2, 0]⟩ [] ∧ (⟨0x2000, [2, 0]⟩ : Request) ≠ rstRequest ∧
    requestFault ⟨0xC000, []⟩ = some .illegalRequest ∧ requestFault ⟨0xB001, []⟩ = some .illegalRequest ∧
    requestFault ⟨0x5000, [0]⟩ = some .illegalRequest ∧ requestFault ⟨0x2146, [0, 0]⟩ = some .unknownField ∧
    requestFault ⟨0x4326, [0xFF, 0xFF]⟩ = some .indexRange ∧ requestFault ⟨0x2000, [2, 0]⟩ = some .valueRange ∧
    requestFault ⟨0x2000, [1, 0]⟩ = none ∧ requestFault ⟨0x1045, []⟩ = none ∧
    (midway 0 [] [some ⟨0x1000, []⟩]).presents ⟨0x1000, []⟩ [] ∧ (midway 0 [] []).busy = true ∧
    (faulty [some ⟨0x1000, []⟩]).presents ⟨0x1000, []⟩ [] ∧ (faulty []).fault = true := by
  refine ⟨rfl, ?_, ?_, ?_, ?_, ?_, ?_, ?_, ?_, ?_, rfl, rfl, rfl, rfl⟩ <;> decide

theorem witness_ReservedCodesFault :
    Instr.form (.reservedOpC 0xFFF) = .reserved .opC 0xFFF ∧ State.reset.ready ∧
    (hosted [some ⟨0xC000, []⟩]).presents ⟨0xC000, []⟩ [] ∧ (hosted [some ⟨0xC000, []⟩]).ready ∧
    (opOf 0x0FFF).toNat = 0 ∧ (opOf 0xC000).toNat = 0xC ∧ (opOf 0xFFFF).toNat = 0xF :=
  ⟨rfl, ready_reset, rfl, ready_reset, rfl, rfl, rfl⟩

theorem witness_UnknownFieldFaults :
    (hosted [some ⟨0x1046, []⟩]).presents ⟨0x1046, []⟩ [] ∧ (hosted [some ⟨0x1046, []⟩]).ready ∧
    (opOf 0x1046).toNat = 1 ∧ (fidOf 0x1046).toNat = 0x46 ∧ ([] : List Byte).length = payloadLength (opOf 0x1046) ∧
    (opOf 0x4FFF).toNat = 4 ∧ (fidOf 0x4FFF).toNat = 0xFF ∧ [0, 0].length = payloadLength (opOf 0x4FFF) :=
  ⟨rfl, ready_reset, rfl, rfl, rfl, rfl, rfl, rfl⟩

theorem witness_ReservedBitsFault :
    (hosted [some ⟨0xB001, []⟩]).presents ⟨0xB001, []⟩ [] ∧ (hosted [some ⟨0xB001, []⟩]).ready ∧
    (opOf 0xB001).toNat = 0xB ∧ lowOf 0xB001 ≠ 0#12 ∧ (opOf 0x5800).toNat = 5 ∧ lowOf 0x5800 ≠ 0#12 :=
  ⟨rfl, ready_reset, rfl, by decide, rfl, by decide⟩

theorem witness_OutLayoutByIndex :
    (outRow .ovrLed).fid = 0x00 ∧ (outRow .ovrTpadPress).fid = 0x20 ∧ (outRow .ledRed).fid = 0x21 ∧
    (outRow .rumbleHigh).fid = 0x27 ∧ (outRow .pwLStickX).fid = 0x28 ∧ (outRow .pwTiltY).fid = 0x33 ∧
    (outRow .stDPadUp).fid = 0x34 ∧ (outRow .stTpadPress).fid = 0x45 := ⟨rfl, rfl, rfl, rfl, rfl, rfl, rfl, rfl⟩

theorem witness_InLayoutByIndex :
    (inRow .reportId).fid = 0x00 ∧ (inRow .rStickY).fid = 0x04 ∧ (inRow .dPadUp).fid = 0x05 ∧
    (inRow .tpadPress).fid = 0x16 ∧ (inRow .counter).fid = 0x17 ∧ (inRow .l2Analog).fid = 0x18 ∧
    (inRow .r2Analog).fid = 0x19 ∧ (inRow .gyroX).fid = 0x1A ∧ (inRow .accelZ).fid = 0x1F ∧
    (inRow .battery).fid = 0x20 ∧ (inRow .usbPresent).fid = 0x21 ∧ (inRow .tpadPacketCount).fid = 0x22 ∧
    (inRow .tpadCounter).fid = 0x23 ∧ (inRow .touchId).fid = 0x24 ∧ (inRow .noContact).fid = 0x25 ∧
    (inRow .touchX).fid = 0x26 ∧ (inRow .touchY).fid = 0x27 ∧
    (2 : BitVec 2).toNat < 3 ∧ (0 : BitVec 2).toNat < 1 ∧ (1 : BitVec 2).toNat < 2 ∧
    (inRow .echoLStickX).fid = 0x28 ∧ (inRow .echoTiltY).fid = 0x33 ∧ (inRow .echoBtnDPadUp).fid = 0x34 ∧
    (inRow .echoBtnTpadPress).fid = 0x45 := by decide

theorem witness_SixteenBitLittleEndian : (outRow .pwTiltY).width = 16 ∧ (inRow .accelZ).width = 16 := ⟨rfl, rfl⟩

theorem witness_FingerEntrySlices : (2 : BitVec 2).toNat < 3 ∧ (1 : BitVec 2).toNat < 2 := by decide

theorem witness_GetoReturnsField : Instr.form .getoStTpadPress = .geto .stTpadPress ∧ State.reset.ready :=
  ⟨rfl, ready_reset⟩

theorem witness_SetoWritesField :
    Instr.form (.setoLedRed 255) = .seto .ledRed 255 ∧ State.reset.ready ∧
    (255 : Scalar).toNat < 2 ^ (outRow .ledRed).width := ⟨rfl, ready_reset, by decide⟩

theorem witness_GetiReturnsField :
    Instr.form (.getiTouchX 2 1) = .geti .touchX 2 1 ∧ State.reset.ready ∧
    (2 : BitVec 2).toNat < (inRow .touchX).nT ∧ (1 : BitVec 2).toNat < (inRow .touchX).nF :=
  ⟨rfl, ready_reset, by decide, by decide⟩

theorem witness_SetiWritesField :
    Instr.form (.setiTouchY 2 1 4095) = .seti .touchY 2 1 4095 ∧ State.reset.ready ∧
    (2 : BitVec 2).toNat < (inRow .touchY).nT ∧ (1 : BitVec 2).toNat < (inRow .touchY).nF ∧
    (4095 : Scalar).toNat < 2 ^ (inRow .touchY).width := ⟨rfl, ready_reset, by decide, by decide, by decide⟩

theorem witness_OverwideValueFaults :
    Instr.form (.setoOvrLed 2) = .seto .ovrLed 2 ∧ State.reset.ready ∧
    2 ^ (outRow .ovrLed).width ≤ (2 : Scalar).toNat ∧
    Instr.form (.setiCounter 0 0 64) = .seti .counter 0 0 64 ∧ (0 : BitVec 2).toNat < (inRow .counter).nT ∧
    (0 : BitVec 2).toNat < (inRow .counter).nF ∧ 2 ^ (inRow .counter).width ≤ (64 : Scalar).toNat :=
  ⟨rfl, ready_reset, by decide, rfl, by decide, by decide, by decide⟩

/-- Each of the four clauses about requests, at the first index outside the extents. -/
theorem witness_IndexRangeFaults :
    Instr.form (.getiTouchX 3 0) = .geti .touchX 3 0 ∧ State.reset.ready ∧
    (inRow .touchX).nT ≤ (3 : BitVec 2).toNat ∧
    Instr.form (.setiTouchX 0 2 9) = .seti .touchX 0 2 9 ∧ (inRow .touchX).nF ≤ (2 : BitVec 2).toNat ∧
    (inRow .reportId).nT ≤ (1 : BitVec 2).toNat ∧
    ((1 : BitVec 2) ≠ 0 ∨ (0 : BitVec 2) ≠ 0) ∧
    (hosted [some ⟨wordOf 1 0 1 (outRow .ovrLed).fid, []⟩]).presents ⟨wordOf 1 0 1 (outRow .ovrLed).fid, []⟩ [] ∧
    (hosted [some ⟨wordOf 2 3 0 (outRow .stTpadPress).fid, scalarBytes 1⟩]).presents
      ⟨wordOf 2 3 0 (outRow .stTpadPress).fid, scalarBytes 1⟩ [] :=
  ⟨rfl, ready_reset, by decide, rfl, by decide, by decide, .inl (by decide), rfl, rfl⟩

theorem witness_SetThenGet :
    Instr.form (.setoPwTiltY 65535) = .seto .pwTiltY 65535 ∧ Instr.form .getoPwTiltY = .geto .pwTiltY ∧
    State.reset.ready ∧ (65535 : Scalar).toNat < 2 ^ (outRow .pwTiltY).width ∧
    Instr.form (.setiTpadCounter 2 0 255) = .seti .tpadCounter 2 0 255 ∧
    Instr.form (.getiTpadCounter 2 0) = .geti .tpadCounter 2 0 ∧
    (2 : BitVec 2).toNat < (inRow .tpadCounter).nT ∧ (0 : BitVec 2).toNat < (inRow .tpadCounter).nF ∧
    (255 : Scalar).toNat < 2 ^ (inRow .tpadCounter).width :=
  ⟨rfl, rfl, ready_reset, by decide, rfl, rfl, by decide, by decide, by decide⟩

theorem witness_SetLeavesOtherFields :
    Instr.form (.setoOvrTpadPress 1) = .seto .ovrTpadPress 1 ∧ State.reset.ready ∧
    (1 : Scalar).toNat < 2 ^ (outRow .ovrTpadPress).width ∧
    (∃ u, exec (.setoOvrTpadPress 1) State.reset = .next u) ∧ OutField.ovrPs ≠ .ovrTpadPress ∧
    Instr.form (.setiTouchX 2 1 0xFFF) = .seti .touchX 2 1 0xFFF ∧
    (0xFFF : Scalar).toNat < 2 ^ (inRow .touchX).width ∧
    (∃ u, exec (.setiTouchX 2 1 0xFFF) State.reset = .next u) ∧
    (InField.touchX, (1 : BitVec 2), (1 : BitVec 2)) ≠ (.touchX, 2, 1) :=
  ⟨rfl, ready_reset, by decide, ⟨_, rfl⟩, by decide, rfl, by decide, ⟨_, rfl⟩, by decide⟩

theorem witness_TouchEntriesRoundTrip :
    (2 : BitVec 2).toNat < 3 ∧ (1 : BitVec 2).toNat < 2 ∧ State.reset.ready := ⟨by decide, by decide, ready_reset⟩

theorem witness_RepeatedRequestChangesNothing :
    Instr.rdo ≠ .exec ∧ Instr.rdo ≠ .rst ∧ ∃ u, exec .rdo State.reset = .next u ∧ u.fault = false :=
  ⟨by decide, by decide, _, rfl, rfl⟩

theorem witness_RawViewsReturnAllBytes : State.reset.ready := ready_reset

theorem witness_RawReplacesWriteAllBytes : State.reset.ready := ready_reset

theorem witness_RawRoundTrip :
    (hosted [some ⟨0x6000, List.replicate 39 0xA5⟩, some ⟨0x5000, []⟩]).ready ∧
    (List.replicate 39 0xA5#8).length = 39 ∧
    (hosted [some ⟨0x6000, List.replicate 39 0xA5⟩, some ⟨0x5000, []⟩]).host =
      some ⟨0x6000, List.replicate 39 0xA5⟩ :: some ⟨0x5000, []⟩ :: [] ∧
    (hosted [some ⟨0x8000, List.replicate 96 0xA5⟩, some ⟨0x7000, []⟩]).ready ∧
    (List.replicate 96 0xA5#8).length = 96 ∧
    (hosted [some ⟨0x8000, List.replicate 96 0xA5⟩, some ⟨0x7000, []⟩]).host =
      some ⟨0x8000, List.replicate 96 0xA5⟩ :: some ⟨0x7000, []⟩ :: [] :=
  ⟨ready_reset, rfl, rfl, ready_reset, rfl, rfl⟩

/-- A view of zeros is in range, in either format. -/
theorem witness_UnpackPackIdentity :
    viewInRange outSlots outReserved (unpackOut zeroPacket) = true ∧
    viewInRange inSlots inReserved (unpackIn zeroPacket) = true := by decide +kernel

theorem witness_InertialFieldsSigned : FieldType.u16 ≠ .bool ∧ FieldType.u16 ≠ .s16 := by decide

/-- The first and the last legal index pair of an indexed field, and the only one of a field that is not. -/
theorem witness_UnpackReadsEveryField :
    (0 : BitVec 2).toNat < (inRow .touchY).nT ∧ (0 : BitVec 2).toNat < (inRow .touchY).nF ∧
    (2 : BitVec 2).toNat < (inRow .touchY).nT ∧ (1 : BitVec 2).toNat < (inRow .touchY).nF ∧
    (0 : BitVec 2).toNat < (inRow .echoBtnTpadPress).nT ∧ (0 : BitVec 2).toNat < (inRow .echoBtnTpadPress).nF := by
  decide

/-- WRI with byte 38 = 0x1B gives battery 11 and the USB flag (40_codec_access.md R97), in the typed view. -/
theorem test_unpack_battery_usb :
    let v := unpackIn (setByte zeroPacket 38 0x1B)
    v.values[0x20]? = some (.unsigned 11) ∧ v.values[0x21]? = some (.bool true) := by decide +kernel

theorem witness_SetindWritesLedBytes : State.reset.ready := ready_reset

theorem witness_SetindThenGetFields : State.reset.ready := ready_reset

theorem witness_SetindIsFiveSetos : State.reset.ready := ready_reset

theorem witness_ExecSelects : State.reset.ready := ready_reset

/-- At the first, at an inner and at the last position. -/
theorem witness_ExchangeStepCaptures :
    (midway 95 [7] []).fault = false ∧ (midway 95 [7] []).phase = .xfer ∧ (midway 95 [7] []).idx.toNat = 95 ∧
    (midway 95 [7] []).board = 7 :: [] ∧ quiet 1 (midway 95 [7] []).host ∧
    (midway 0 [7] [none]).idx.toNat = 0 ∧ quiet 1 (midway 0 [7] [none]).host ∧ (midway 94 [7] []).idx.toNat = 94 :=
  ⟨rfl, rfl, rfl, rfl, by unfold quiet; decide, rfl, by unfold quiet; decide, rfl⟩

theorem witness_DeselectStepReleases :
    ({ midway 95 [] [] with phase := .desel } : State).fault = false ∧
    ({ midway 95 [] [] with phase := .desel } : State).phase = .desel ∧ quiet 1 (midway 95 [] []).host :=
  ⟨rfl, rfl, by unfold quiet; decide⟩

theorem witness_DecodeStepCompletes :
    ({ midway 95 [] [none] with phase := .decode } : State).fault = false ∧
    ({ midway 95 [] [none] with phase := .decode } : State).phase = .decode ∧ quiet 1 (midway 95 [] [none]).host :=
  ⟨rfl, rfl, by unfold quiet; decide⟩

theorem witness_TransactionCompletes :
    ({ hosted [some ⟨0xA000, []⟩] with board := List.replicate 96 7 ++ [8] } : State).ready ∧
    ({ hosted [some ⟨0xA000, []⟩] with board := List.replicate 96 7 ++ [8] } : State).presents ⟨0xA000, []⟩ [] ∧
    quiet 98 ([] : List (Option Request)) ∧ (List.replicate 96 (7 : Byte)).length = 96 :=
  ⟨ready_reset, rfl, by unfold quiet; decide, rfl⟩

/-- The first step, the last with SEL = 1 and the last with BUSY = 1. -/
theorem witness_TransactionBusyThroughout :
    ({ hosted [some ⟨0xA000, []⟩, none] with board := List.replicate 96 7 } : State).ready ∧
    ({ hosted [some ⟨0xA000, []⟩, none] with board := List.replicate 96 7 } : State).presents ⟨0xA000, []⟩ [none] ∧
    quiet 98 ([none] : List (Option Request)) ∧ 96 ≤ (List.replicate 96 (7 : Byte)).length ∧
    ∀ k ∈ [1, 97, 98], 1 ≤ k ∧ k ≤ 98 :=
  ⟨ready_reset, rfl, by unfold quiet; decide, by decide, by decide⟩

theorem witness_UnansweredExchangeWaits :
    (midway 95 [] []).fault = false ∧ (midway 95 [] []).phase = .xfer ∧ (midway 95 [] []).idx.toNat ≤ 95 ∧
    (midway 95 [] []).board = [] ∧ (midway 95 [] []).host = [] ∧ (midway 0 [] [none]).host = none :: [] :=
  ⟨rfl, rfl, by decide, rfl, rfl, rfl⟩

theorem witness_FaultedBlockIsFrozen :
    (faulty [some ⟨0xA000, []⟩]).fault = true ∧ (faulty [some ⟨0xA000, []⟩]).presents ⟨0xA000, []⟩ [] ∧
    (⟨0xA000, []⟩ : Request) ≠ rstRequest ∧ quiet 1 (faulty [none]).host :=
  ⟨rfl, rfl, by decide, by unfold quiet; decide⟩

theorem witness_FaultEntryChangesNothingElse :
    ∃ u, step (hosted [some ⟨0x0000, []⟩]) = .next u ∧ (hosted [some ⟨0x0000, []⟩]).fault = false ∧ u.fault = true :=
  ⟨_, rfl, rfl, rfl⟩

theorem witness_OnlyRstClearsFault :
    ∃ u, step (faulty [some ⟨0xB000, []⟩]) = .next u ∧ (faulty [some ⟨0xB000, []⟩]).fault = true ∧ u.fault = false :=
  ⟨_, rfl, rfl, rfl⟩

theorem witness_OutputPacketWriters :
    ∃ u, step (hosted [some ⟨0x2000, [1, 0]⟩]) = .next u ∧ u.outpkt ≠ (hosted [some ⟨0x2000, [1, 0]⟩]).outpkt :=
  ⟨_, rfl, by decide +kernel⟩

/-- A SETI, and an exchange. -/
theorem witness_InputPacketWriters :
    (∃ u, step (hosted [some ⟨0x4000, [1, 0]⟩]) = .next u ∧ u.inpkt ≠ (hosted [some ⟨0x4000, [1, 0]⟩]).inpkt) ∧
    ∃ u, step (midway 3 [1] []) = .next u ∧ u.inpkt ≠ (midway 3 [1] []).inpkt :=
  ⟨⟨_, rfl, by decide +kernel⟩, ⟨_, rfl, by decide +kernel⟩⟩

/-- A state inside a transaction keeps the invariant. -/
theorem midway_inv (board : List Byte) (h : List (Option Request)) : (midway 95 board h).inv where
  busy_iff := by simp [midway]
  idx_le := by simp [midway]
  sel_iff := by simp [midway]
  fcode_zero := by simp [midway, State.reset, State.afterPowerOn]
  fcode_cause := by simp [midway, State.reset, State.afterPowerOn]
  no_answer_yet := by simp [midway, State.reset, State.afterPowerOn]
  error_zero := by simp [midway, State.reset, State.afterPowerOn]
  trace_level := rfl
  trace_orderly := rfl

theorem witness_SequencerTransitions : (midway 95 [1] []).inv ∧ ∃ u, step (midway 95 [1] []) = .next u :=
  ⟨midway_inv _ _, _, rfl⟩

theorem witness_BusTraceOnlyGrows : ∃ u, step (midway 95 [1] []) = .next u := ⟨_, rfl⟩

theorem witness_StepStopsOnlyOnSilence : (midway 95 [] []).inv := midway_inv _ _

theorem witness_StepKeepsInvariant : (midway 95 [1] []).inv ∧ ∃ u, step (midway 95 [1] []) = .next u :=
  ⟨midway_inv _ _, _, rfl⟩

end Sys2Proof.Tests
end

/-! # The step's effects and the statements of 10_state.md

What serving an instruction, rejecting a request and the sequencer can do to the state, each said once; then what
every step keeps or leaves unchanged. -/

namespace Sys2Proof.Machine

/-! ## What a step can do -/

/-- The effects that serving an instruction of form `x` can have: a refusal while FAULT = 1 (60_exceptions.md R147),
fault entry (R146), a successful answer whose only register writes are those the form may make, EXEC's select step
(41_transaction.md R112) and RST (70_reset_and_hazards.md R160). -/
inductive Served (x : Form) (s : State) : State → Prop
  | refused (n : Nat) (hf : s.fault = true) : Served x s (refuse n s)
  | raised (c : FaultCause) (n : Nat) (hf : s.fault = false) : Served x s (raise c n s)
  | answered (d : List Byte) (out : OutPacket) (inp : InPacket) (hready : s.ready)
      (hout : writesOut x ∨ out = s.outpkt) (hinp : writesIn x ∨ inp = s.inpkt) :
      Served x s (respond d { s with outpkt := out, inpkt := inp })
  | selected (hx : x = .exec) (hready : s.ready) : Served x s (selectStep s)
  | reset (hx : x = .rst) : Served x s (resetBlock s)

variable {s u : State} {x : Form}

/-- An operation behind `Accept()` has an effect of `Served` as soon as its body has one in a ready block. -/
theorem Served.of_accept {n : Nat} {body : State → State} (h : s.ready → Served x s (body s)) :
    Served x s (accept n body s) := by
  obtain ⟨hf, he⟩ | ⟨hf, -, he⟩ | ⟨hf, hb, he⟩ := accept_cases s n body <;> rw [he]
  · exact .refused n hf
  · exact .raised _ n hf
  · exact h ⟨hf, hb⟩

/-- An answer that writes neither packet: the gets and the raw views. -/
theorem Served.of_respond (d : List Byte) (hready : s.ready) : Served x s (respond d s) :=
  .answered d s.outpkt s.inpkt hready (.inr rfl) (.inr rfl)

/-- The body of a set: it faults, or writes what its form may write. -/
theorem Served.of_setBody {r : FieldRow} {v : Scalar} {write : State → State} (hready : s.ready)
    (h : Served x s (respond [] (write s))) : Served x s (setBody r v write s) := by
  obtain ⟨-, he⟩ | ⟨-, he⟩ := setBody_cases s r v write <;> rw [he]
  · exact h
  · exact .raised _ 0 hready.1

/-- The index check lets the body through or faults. -/
theorem Served.of_indexed {n : Nat} {r : FieldRow} {t f : BitVec 2} {body : State → State} (hready : s.ready)
    (h : Served x s (body s)) : Served x s (indexed n r t f body s) := by
  obtain ⟨-, he⟩ | ⟨-, he⟩ := indexed_cases s n r t f body <;> rw [he]
  · exact h
  · exact .raised _ n hready.1

/-- Everything an instruction can do, by its form. -/
theorem served_of_execForm (h : execForm x s = .next u) : Served x s u := by
  cases x <;> cases h
  case geto => exact .of_accept (.of_respond _)
  case seto => exact .of_accept fun hr => .of_setBody hr (.answered _ _ s.inpkt hr (.inl trivial) (.inr rfl))
  case geti => exact .of_accept fun hr => .of_indexed hr (.of_respond _ hr)
  case seti =>
    exact .of_accept fun hr => .of_indexed hr <|
      .of_setBody hr (.answered _ s.outpkt _ hr (.inr rfl) (.inl trivial))
  case rdo => exact .of_accept (.of_respond _)
  case rdi => exact .of_accept (.of_respond _)
  case wro => exact .of_accept fun hr => .answered _ _ s.inpkt hr (.inl trivial) (.inr rfl)
  case wri => exact .of_accept fun hr => .answered _ s.outpkt _ hr (.inr rfl) (.inl trivial)
  case setind => exact .of_accept fun hr => .answered _ _ s.inpkt hr (.inl trivial) (.inr rfl)
  case exec => exact .of_accept (.selected rfl)
  case rst => exact .reset rfl
  case reserved => exact .of_accept fun hr => .raised _ 0 hr.1

/-- Everything a rejected request can do: it is refused while FAULT = 1 and faults otherwise (60_exceptions.md R144). -/
theorem rejectRequest_cases (e : DecodeError) (n : Nat) (s : State) :
    (s.fault = true ∧ rejectRequest e n s = refuse n s) ∨
    (s.fault = false ∧ ∃ c, rejectRequest e n s = raise c n s) := by
  obtain ⟨hf, he⟩ | ⟨hf, -, he⟩ | ⟨hf, -, he⟩ := accept_cases s n (raise (decodeCause e) n)
  · exact .inl ⟨hf, he⟩
  · exact .inr ⟨hf, _, he⟩
  · exact .inr ⟨hf, _, he⟩

@[simp] theorem rejectRequest_outpkt (e : DecodeError) (n : Nat) (s : State) :
    (rejectRequest e n s).outpkt = s.outpkt := by
  obtain ⟨-, he⟩ | ⟨-, c, he⟩ := rejectRequest_cases e n s <;> simp [he]

@[simp] theorem rejectRequest_inpkt (e : DecodeError) (n : Nat) (s : State) :
    (rejectRequest e n s).inpkt = s.inpkt := by
  obtain ⟨-, he⟩ | ⟨-, c, he⟩ := rejectRequest_cases e n s <;> simp [he]

@[simp] theorem rejectRequest_trace (e : DecodeError) (n : Nat) (s : State) :
    (rejectRequest e n s).trace = s.trace := by
  obtain ⟨-, he⟩ | ⟨-, c, he⟩ := rejectRequest_cases e n s <;> simp [he]

/-- The moves of the sequencer (41_transaction.md R125): it stays, exchanges a byte, deselects, or decodes. -/
inductive Moved (s : State) : State → Prop
  | stayed : Moved s s
  | exchanged (r : Byte) (rest : List Byte) (hf : s.fault = false) (hp : s.phase = .xfer) (hi : s.idx.toNat ≤ 95)
      (hb : s.board = r :: rest) : Moved s (exchangeStep r { s with board := rest })
  | deselected (hf : s.fault = false) (hp : s.phase = .desel) : Moved s (deselectStep s)
  | decoded (hf : s.fault = false) (hp : s.phase = .decode) : Moved s (decodeStep s)

/-- Everything the sequencer can do when it has a next state. -/
theorem moved_of_sequencerMove (h : sequencerMove s = .next u) : Moved s u := by
  obtain ⟨-, he⟩ | ⟨-, -, he⟩ | ⟨-, -, -, he⟩ | ⟨-, -, -, -, he⟩ | ⟨r, rest, hf, hp, hi, hb, he⟩ | ⟨hf, hp, he⟩ |
    ⟨hf, hp, he⟩ := sequencerMove_cases s <;> cases he.symm.trans h
  · exact .stayed
  · exact .stayed
  · exact .stayed
  · exact .exchanged r rest hf hp hi hb
  · exact .deselected hf hp
  · exact .decoded hf hp

/-- A request is presented or the host is quiet. -/
theorem presents_or_quiet (s : State) : (∃ r rest, s.presents r rest) ∨ quiet 1 s.host := by
  cases hh : s.host with
  | nil => exact .inr (by simp [quiet])
  | cons o rest =>
    cases o with
    | none => exact .inr (by simp [quiet])
    | some r => exact .inl ⟨r, rest, hh⟩

/-- Everything one step can do, with the request it serves: a decoded instruction's effect, a rejection, or the
sequencer's move, each on the state whose `host` has lost the entry of this step. -/
theorem step_effect (h : step s = .next u) :
    (∃ r rest i, s.presents r rest ∧ decode r = .ok i ∧ Served i.form { s with host := rest } u) ∨
    (∃ r rest e, s.presents r rest ∧ decode r = .error e ∧
      u = rejectRequest e (responseLength (opOf r.word)) { s with host := rest }) ∨
    (quiet 1 s.host ∧ Moved { s with host := s.host.tail } u) := by
  obtain ⟨r, rest, hr⟩ | hq := presents_or_quiet s
  · rw [step_request hr] at h
    cases hd : decode r with
    | ok i =>
      rw [serve_instr hd, exec_eq_execForm] at h
      exact .inl ⟨r, rest, i, hr, hd, served_of_execForm h⟩
    | error e =>
      rw [serve_error hd] at h
      cases h
      exact .inr (.inl ⟨r, rest, e, hr, hd, rfl⟩)
  · have ha : awaitsTransport s = false ∨ s.host ≠ [] := by
      by_contra! hc
      rw [step_end hc.2, if_pos (by simpa using hc.1)] at h
      cases h
    rw [step_sequencer hq ha] at h
    exact .inr (.inr ⟨hq, moved_of_sequencerMove h⟩)

/-! ## What each effect leaves unchanged -/

theorem Served.outpkt_eq (h : Served x s u) (hx : ¬writesOut x) : u.outpkt = s.outpkt := by
  cases h with
  | refused | raised | selected => rfl
  | answered d out inp hr hout => exact hout.resolve_left hx
  | reset hrst => subst hrst; exact absurd trivial hx

theorem Served.inpkt_eq (h : Served x s u) (hx : ¬writesIn x) : u.inpkt = s.inpkt := by
  cases h with
  | refused | raised | selected => rfl
  | answered d out inp hr hout hinp => exact hinp.resolve_left hx
  | reset hrst => subst hrst; exact absurd trivial hx

theorem Moved.outpkt_eq (h : Moved s u) : u.outpkt = s.outpkt := by
  cases h <;> simp

/-- Only an exchange and the decode step of an unfaulted transaction write the Input Packet. -/
theorem Moved.inpkt_eq (h : Moved s u) (hs : ¬(s.fault = false ∧ (s.phase = .xfer ∨ s.phase = .decode))) :
    u.inpkt = s.inpkt := by
  cases h with
  | stayed | deselected => rfl
  | exchanged r rest hf hp => exact absurd ⟨hf, .inl hp⟩ hs
  | decoded hf hp => exact absurd ⟨hf, .inr hp⟩ hs

/-- A trace grows by at most one event (10_state.md R22). -/
def TraceGrows (old new : List BusEvent) : Prop := ∃ es, new = old ++ es ∧ es.length ≤ 1

theorem traceGrows_of_eq {old new : List BusEvent} (h : new = old) : TraceGrows old new := ⟨[], by simp [h]⟩

theorem traceGrows_append (old : List BusEvent) (e : BusEvent) : TraceGrows old (old ++ [e]) := ⟨[e], rfl, le_rfl⟩

theorem Served.traceGrows (h : Served x s u) : TraceGrows s.trace u.trace := by
  cases h with
  | refused | raised | answered => exact traceGrows_of_eq rfl
  | selected => exact traceGrows_append _ _
  | reset => exact ⟨_, resetBlock_trace s, by split <;> simp⟩

theorem Moved.traceGrows (h : Moved s u) : TraceGrows s.trace u.trace := by
  cases h with
  | stayed | decoded => exact traceGrows_of_eq rfl
  | exchanged r rest => rw [exchangeStep_trace]; exact traceGrows_append _ _
  | deselected => exact traceGrows_append _ _

/-! ## The invariant -/

namespace State.inv

theorem with_host (h : s.inv) (host : List (Option Request)) : ({ s with host := host } : State).inv := { h with }

theorem with_board (h : s.inv) (board : List Byte) : ({ s with board := board } : State).inv := { h with }

/-- An idle block has released select. -/
theorem sel_eq_false (h : s.inv) (hb : s.busy = false) : s.sel = false := by
  have hp : s.phase = .idle := by_contra fun hp => by simp [h.busy_iff.mpr hp] at hb
  simpa [hp] using h.sel_iff

/-- A refusal shows an error of zeros; the fault recorded before it accounts for the answer inside a transaction. -/
theorem refuse (h : s.inv) (hf : s.fault = true) (n : Nat) : (Machine.refuse n s).inv := {
  h with
  no_answer_yet := fun _ hf' => by simp [hf] at hf'
  error_zero := by
    rintro _ ⟨⟩ - b hb
    exact List.eq_of_mem_replicate hb }

/-- Fault entry records one of the five causes and leaves the sequencer alone. -/
theorem raise (h : s.inv) (c : FaultCause) (n : Nat) : (Machine.raise c n s).inv := {
  h with
  fcode_zero := nofun
  fcode_cause := fun _ => ⟨c, rfl⟩
  no_answer_yet := nofun
  error_zero := by
    rintro _ ⟨⟩ - b hb
    exact List.eq_of_mem_replicate hb }

/-- A success answered outside a transaction, whatever the packets then hold. -/
theorem respond (h : s.inv) (hb : s.busy = false) (d : List Byte) (out : OutPacket) (inp : InPacket) :
    (Machine.respond d { s with outpkt := out, inpkt := inp }).inv := {
  h with
  no_answer_yet := fun hb' => by simp [hb] at hb'
  error_zero := by
    rintro _ ⟨⟩ ⟨⟩ }

/-- The select step starts from a released select line. -/
theorem selectStep (h : s.inv) (hb : s.busy = false) : (Machine.selectStep s).inv where
  busy_iff := by simp
  idx_le := by simp
  sel_iff := by simp
  fcode_zero := h.fcode_zero
  fcode_cause := h.fcode_cause
  no_answer_yet := by simp
  error_zero := by simp
  trace_level := by simp [traceLevel_append, traceLevel]
  trace_orderly := by
    simp [traceOrderly_append, traceOrderly, h.trace_orderly, h.trace_level, h.sel_eq_false hb]

/-- RST releases select exactly if it was asserted. -/
theorem resetBlock (h : s.inv) : (Machine.resetBlock s).inv where
  busy_iff := by simp
  idx_le := by simp
  sel_iff := by simp
  fcode_zero := by simp
  fcode_cause := by simp
  no_answer_yet := by simp
  error_zero := by simp
  trace_level := by cases hs : s.sel <;> simp [traceLevel_append, traceLevel, h.trace_level, hs]
  trace_orderly := by
    cases hs : s.sel <;> simp [traceOrderly_append, traceOrderly, h.trace_orderly, h.trace_level, hs]

/-- An exchange happens under an asserted select line; the last one leaves XFER before IDX runs off the table. -/
theorem exchangeStep (h : s.inv) (hp : s.phase = .xfer) (hi : s.idx.toNat ≤ 95) (r : Byte) :
    (Machine.exchangeStep r s).inv := by
  have hsel : s.sel = true := h.sel_iff.mpr (.inl hp)
  have hbusy : s.busy = true := h.busy_iff.mpr (by simp [hp])
  have hphase : (Machine.exchangeStep r s).phase = .xfer ∧ (Machine.exchangeStep r s).idx.toNat ≤ 95 ∨
      (Machine.exchangeStep r s).phase = .desel := by
    obtain ⟨hlt, he⟩ | ⟨-, he⟩ := exchangeStep_cases s r <;> rw [he]
    · exact .inl ⟨hp, by dsimp only; bv_omega⟩
    · exact .inr rfl
  exact {
    busy_iff := by obtain ⟨hp', -⟩ | hp' := hphase <;> simp [hp', hbusy]
    idx_le := by
      obtain ⟨-, hi'⟩ | hp' := hphase
      · exact fun _ => hi'
      · simp [hp']
    sel_iff := by obtain ⟨hp', -⟩ | hp' := hphase <;> simp [hp', hsel]
    fcode_zero := by simpa using h.fcode_zero
    fcode_cause := by simpa using h.fcode_cause
    no_answer_yet := by simpa using h.no_answer_yet
    error_zero := by simpa using h.error_zero
    trace_level := by simp [traceLevel_append, traceLevel, h.trace_level]
    trace_orderly := by simp [traceOrderly_append, traceOrderly, h.trace_orderly, h.trace_level, hsel] }

/-- The deselect step releases a select line that was asserted. -/
theorem deselectStep (h : s.inv) (hp : s.phase = .desel) : (Machine.deselectStep s).inv where
  busy_iff := by simp [h.busy_iff, hp]
  idx_le := by simp
  sel_iff := by simp
  fcode_zero := h.fcode_zero
  fcode_cause := h.fcode_cause
  no_answer_yet := h.no_answer_yet
  error_zero := h.error_zero
  trace_level := by simp [traceLevel_append, traceLevel]
  trace_orderly := by
    simp [traceOrderly_append, traceOrderly, h.trace_orderly, h.trace_level, h.sel_iff.mpr (.inr hp)]

/-- The decode step answers EXEC and ends the transaction. -/
theorem decodeStep (h : s.inv) (hp : s.phase = .decode) : (Machine.decodeStep s).inv := {
  h with
  busy_iff := by simp
  idx_le := by simp
  sel_iff := by simp [h.sel_iff, hp]
  no_answer_yet := by simp
  error_zero := by simp }

end State.inv

theorem rejectRequest_inv (h : s.inv) (e : DecodeError) (n : Nat) : (rejectRequest e n s).inv := by
  obtain ⟨hf, he⟩ | ⟨-, c, he⟩ := rejectRequest_cases e n s <;> rw [he]
  · exact h.refuse hf n
  · exact h.raise c n

theorem Served.inv (hu : Served x s u) (h : s.inv) : u.inv := by
  cases hu with
  | refused n hf => exact h.refuse hf n
  | raised c n => exact h.raise c n
  | answered d out inp hready => exact h.respond hready.2 d out inp
  | selected _ hready => exact h.selectStep hready.2
  | reset => exact h.resetBlock

theorem Moved.inv (hu : Moved s u) (h : s.inv) : u.inv := by
  cases hu with
  | stayed => exact h
  | exchanged r rest _ hp hi => exact (h.with_board rest).exchangeStep hp hi r
  | deselected _ hp => exact h.deselectStep hp
  | decoded _ hp => exact h.decodeStep hp

/-- Settles O55, by the effect of the step. -/
theorem stepKeepsInvariant : Obligations.StepKeepsInvariant := by
  intro s u h hstep
  obtain ⟨r, rest, i, -, -, hu⟩ | ⟨r, rest, e, -, -, rfl⟩ | ⟨-, hu⟩ := step_effect hstep
  · exact hu.inv (h.with_host rest)
  · exact rejectRequest_inv (h.with_host rest) e _
  · exact hu.inv (h.with_host _)

/-! ## Who writes the packets and the bus trace -/

/-- Settles O50: a rejection and the sequencer leave the Output Packet alone, and so does every other instruction. -/
theorem outputPacketWriters : Obligations.OutputPacketWriters := by
  intro s u hstep hne
  obtain ⟨r, rest, i, hr, hd, hu⟩ | ⟨r, rest, e, -, -, rfl⟩ | ⟨-, hu⟩ := step_effect hstep
  · exact ⟨r, rest, i, hr, hd, by_contra fun hw => hne (hu.outpkt_eq hw)⟩
  · exact absurd (rejectRequest_outpkt ..) hne
  · exact absurd hu.outpkt_eq hne

/-- Settles O51: as O50, but the sequencer writes the Input Packet while it exchanges and decodes. -/
theorem inputPacketWriters : Obligations.InputPacketWriters := by
  intro s u hstep hne
  obtain ⟨r, rest, i, hr, hd, hu⟩ | ⟨r, rest, e, -, -, rfl⟩ | ⟨hq, hu⟩ := step_effect hstep
  · exact .inl ⟨r, rest, i, hr, hd, by_contra fun hw => hne (hu.inpkt_eq hw)⟩
  · exact absurd (rejectRequest_inpkt ..) hne
  · exact .inr ⟨hq, by_contra fun hs => hne (hu.inpkt_eq hs)⟩

/-- Settles O53, by the effect of the step. -/
theorem busTraceOnlyGrows : Obligations.BusTraceOnlyGrows := by
  intro s u hstep
  obtain ⟨r, rest, i, -, -, hu⟩ | ⟨r, rest, e, -, -, rfl⟩ | ⟨-, hu⟩ := step_effect hstep
  · exact hu.traceGrows
  · exact traceGrows_of_eq (rejectRequest_trace ..)
  · exact hu.traceGrows

/-! ## The host port and the transport port -/

/-- Settles O4: what is presented is served, and `withFetchWord` presents the stored request. -/
theorem stepRunsDecodedInstruction : Obligations.StepRunsDecodedInstruction := by
  have presented : ∀ (s : State) (r : Request) (rest : List (Option Request)) (i : Instr),
      s.presents r rest → decode r = .ok i → step s = exec i { s with host := rest } :=
    fun s r rest i hr hd => by rw [step_request hr, serve_instr hd]
  exact ⟨presented, fun s nbits w i hd => presented (s.withFetchWord nbits w) _ s.host i rfl hd⟩

/-- The byte the block transmits is the wire byte of the position (41_transaction.md R121). -/
theorem txByte_eq_wireByte (s : State) (i : Nat) : txByte s i = wireByte s.outpkt i := by
  simp [txByte, wireByte, Config.pad, Nat.lt_succ_iff]

/-- Settles O46: `tx_valid` is the test of R25, and `tx_byte` the wire byte by `txByte_eq_wireByte`. -/
theorem transmitRequest : Obligations.TransmitRequest := by
  intro s
  simp only [txRequest, txByte_eq_wireByte, Bool.and_eq_true, decide_eq_true_eq, Bool.not_eq_true']

end Sys2Proof.Machine

/-! # The statements of 20_memory.md

The byte order of 16-bit fields, and what a request does when it is made again. -/

namespace Sys2Proof.Machine

variable {n : Nat}

/-! ## Byte order -/

/-- A `BitRead` of 16 bits from a whole byte is the two bytes there, the low one first (20_memory.md R30). -/
theorem bitRead_two_bytes (p : Packet n) (i : Nat) : bitRead p (8 * i) 16 = byteAt p (i + 1) ++ byteAt p i := by
  refine BitVec.eq_of_getLsbD_eq fun k hk => ?_
  rw [getLsbD_bitRead _ _ _ _ le_rfl, BitVec.getLsbD_append, decide_eq_true hk, Bool.true_and, bitAt]
  by_cases h : k < 8
  · simp [h, show (8 * i + k) / 8 = i by omega, Nat.mod_eq_of_lt h]
  · simp [h, show (8 * i + k) / 8 = i + 1 by omega, show (8 * i + k) % 8 = k - 8 by omega]

/-- The number made of two bytes. -/
theorem toNat_byte_append (hi lo : Byte) : (hi ++ lo).toNat = lo.toNat + 256 * hi.toNat := by
  rw [BitVec.toNat_append, ← Nat.shiftLeft_add_eq_or_of_lt lo.isLt, Nat.shiftLeft_eq]
  omega

/-- A 16-bit field at a whole byte reads as `P[i] + 256 * P[i+1]`. -/
theorem sixteenBit_of_aligned (p : Packet n) {a : Nat} (ha : 8 ∣ a) (hn : a + 16 ≤ 8 * n) :
    ∃ i, i + 1 < n ∧ a = 8 * i ∧ (bitRead p a 16).toNat = (byteAt p i).toNat + 256 * (byteAt p (i + 1)).toNat := by
  obtain ⟨i, rfl⟩ := ha
  exact ⟨i, by omega, rfl, by rw [bitRead_two_bytes, toNat_byte_append]⟩

/-- The 16-bit fields of format OUT stand at whole bytes inside the packet (30_encoding.md R57). -/
theorem outRow_sixteenBit_aligned (x : OutField) :
    (outRow x).width = 16 → 8 ∣ (outRow x).a0 ∧ (outRow x).a0 + 16 ≤ 8 * 39 := by
  cases x <;> decide

/-- The 16-bit fields of format IN stand at whole bytes inside the packet (30_encoding.md R68, R74). -/
theorem inRow_sixteenBit_aligned (x : InField) :
    (inRow x).width = 16 → 8 ∣ (inRow x).a0 ∧ (inRow x).a0 + 16 ≤ 8 * 96 := by
  cases x <;> decide

/-- Settles O16: both tables align their 16-bit fields, and an aligned 16-bit read is two bytes. -/
theorem sixteenBitLittleEndian : Obligations.SixteenBitLittleEndian := by
  refine ⟨fun p x hw => ?_, fun p x hw => ?_⟩
  · obtain ⟨hdvd, hin⟩ := outRow_sixteenBit_aligned x hw
    exact sixteenBit_of_aligned p hdvd hin
  · obtain ⟨hdvd, hin⟩ := inRow_sixteenBit_aligned x hw
    exact sixteenBit_of_aligned p hdvd hin

/-! ## A request made again -/

/-- A `BitWrite` repeated changes nothing more (20_memory.md R35). -/
@[simp] theorem bitWrite_bitWrite_self (p : Packet n) (a w : Nat) (v : Scalar) :
    bitWrite (bitWrite p a w v) a w v = bitWrite p a w v := by
  refine packet_ext_bits fun x _ => ?_
  simp only [bitAt_bitWrite]
  split_ifs <;> rfl

/-- SETIND's bytes written again change nothing more (42_indicator.md R130). -/
@[simp] theorem setLedBytes_setLedBytes_self (red green blue blinkOn blinkOff : Byte) (p : OutPacket) :
    setLedBytes red green blue blinkOn blinkOff (setLedBytes red green blue blinkOn blinkOff p) =
      setLedBytes red green blue blinkOn blinkOff p := by
  refine packet_ext fun i _ => ?_
  simp only [setLedBytes, byteAt_setByte]
  grind

/-- An instruction is the instruction of its form. -/
theorem ofForm_form (i : Instr) : Instr.ofForm i.form = i := by
  cases i <;> rfl

section
variable {s u : State} {x : Form}

/-- An instruction other than the one of a form has another form. -/
theorem form_ne_of_ne {i : Instr} (h : i ≠ .ofForm x) : i.form ≠ x :=
  fun hx => h (by rw [← hx, ofForm_form])

/-- A success of any instruction but EXEC and RST comes from a block that accepts requests and leaves it
accepting them. -/
theorem Served.ready_of_success (h : Served x s u) (hexec : x ≠ .exec) (hrst : x ≠ .rst) (hu : u.fault = false) :
    s.ready ∧ u.ready := by
  cases h with
  | refused n hf => exact absurd hu (by simp [hf])
  | raised => cases hu
  | answered d out inp hready => exact ⟨hready, hready⟩
  | selected hx => exact absurd hx hexec
  | reset hx => exact absurd hx hrst

/-- A block that accepts requests and is left accepting them answers the same request in the same way again: a get or a
view reads unchanged packets, a set, a replace or SETIND writes what stands there already, and a fault leaves no block
that accepts requests. -/
theorem execForm_again (h : execForm x s = .next u) (hexec : x ≠ .exec) (hrst : x ≠ .rst) (hs : s.ready)
    (hu : u.ready) : execForm x u = .next u := by
  obtain ⟨hsf, hsb⟩ := hs
  obtain ⟨huf, hub⟩ := hu
  cases x with
  | geto x =>
    simp only [execForm, getOut_ready _ _ hsf hsb, getOut_ready _ _ huf hub] at h ⊢
    cases h
    rfl
  | seto x v =>
    simp only [execForm, setOut_ready _ _ _ hsf hsb, setOut_ready _ _ _ huf hub] at h ⊢
    split_ifs at h ⊢ <;> cases h
    · simp [respond]
    · cases huf
  | geti x t f =>
    simp only [execForm, getIn_ready _ _ _ _ hsf hsb, getIn_ready _ _ _ _ huf hub] at h ⊢
    split_ifs at h ⊢ <;> cases h
    · rfl
    · cases huf
  | seti x t f v =>
    simp only [execForm, setIn_ready _ _ _ _ _ hsf hsb, setIn_ready _ _ _ _ _ huf hub] at h ⊢
    split_ifs at h ⊢ <;> cases h
    · simp [respond]
    · cases huf
    · cases huf
  | rdo | rdi | wro | wri =>
    simp only [execForm, execRdo, execRdi, execWro, execWri, accept_ready _ _ _ hsf hsb,
      accept_ready _ _ _ huf hub] at h ⊢
    cases h
    rfl
  | setind =>
    simp only [execForm, execSetind, accept_ready _ _ _ hsf hsb, accept_ready _ _ _ huf hub] at h ⊢
    cases h
    simp [respond]
  | reserved =>
    simp only [execForm, illegalOperation, accept_ready _ _ _ hsf hsb] at h
    cases h
    cases huf
  | exec => exact absurd rfl hexec
  | rst => exact absurd rfl hrst

end

/-- Settles O28: a success leaves the block accepting requests, and such a block repeats its answer. -/
theorem repeatedRequestChangesNothing : Obligations.RepeatedRequestChangesNothing := by
  intro i s u hexec hrst h hu
  rw [exec_eq_execForm] at h ⊢
  have hexec' : i.form ≠ .exec := form_ne_of_ne hexec
  have hrst' : i.form ≠ .rst := form_ne_of_ne hrst
  obtain ⟨hs, hready⟩ := (served_of_execForm h).ready_of_success hexec' hrst' hu
  exact execForm_again h hexec' hrst' hs hready

end Sys2Proof.Machine

/-! # The statements of 30_encoding.md

The decoder case by case, with decode and encode as inverses of each other; the faults of a request; the field tables as
formulas; the slices of a finger entry; the partition of both packets into fields and reserved bits. -/

namespace Sys2Proof

open Machine

/-! ## What the decoder answers -/

theorem decode_of_decodeForm_ok {r : Request} {x : Form} (h : decodeForm r = .ok x) :
    decode r = .ok (Instr.ofForm x) := by simp only [decode, h]

theorem decode_of_decodeForm_error {r : Request} {e : DecodeError} (h : decodeForm r = .error e) :
    decode r = .error e := by simp only [decode, h]

theorem decodeForm_of_decode_ok {r : Request} {i : Instr} (h : decode r = .ok i) : decodeForm r = .ok i.form := by
  cases hd : decodeForm r with
  | ok x =>
    cases (decode_of_decodeForm_ok hd).symm.trans h
    rw [form_ofForm]
  | error e => cases (decode_of_decodeForm_error hd).symm.trans h

section
variable {w : ReqWord}

theorem outForm_of_some {x : OutField} (mk : OutField → Form) (h : outLookup (fidOf w) = some x) :
    outForm w mk = if subRecordOf w = 0#2 ∧ fingerOf w = 0#2 then .ok (mk x) else .error .indexRange := by
  simp only [outForm, h]

theorem outForm_of_none (mk : OutField → Form) (h : outLookup (fidOf w) = none) :
    outForm w mk = .error .unknownField := by simp only [outForm, h]

theorem inForm_of_some {x : InField} (mk : InField → Form) (h : inLookup (fidOf w) = some x) :
    inForm w mk = .ok (mk x) := by simp only [inForm, h]

theorem inForm_of_none (mk : InField → Form) (h : inLookup (fidOf w) = none) :
    inForm w mk = .error .unknownField := by simp only [inForm, h]

/-- A word of format OUT that is accepted has `T` and `F` zero and the FID of the field it names. -/
theorem outForm_eq_ok {mk : OutField → Form} {y : Form} (h : outForm w mk = .ok y) :
    ∃ x, y = mk x ∧ wordOf (opOf w) 0 0 (outRow x).fid = w := by
  cases hx : outLookup (fidOf w) with
  | none => cases (outForm_of_none mk hx).symm.trans h
  | some x =>
    rw [outForm_of_some mk hx] at h
    split_ifs at h with htf
    cases h
    obtain ⟨ht, hf⟩ := htf
    have hw := wordOf_fields w
    rw [ht, hf, ← outLookup_some hx] at hw
    exact ⟨x, rfl, hw⟩

/-- A word of format IN that is accepted has the FID of the field it names. -/
theorem inForm_eq_ok {mk : InField → Form} {y : Form} (h : inForm w mk = .ok y) :
    ∃ x, y = mk x ∧ wordOf (opOf w) (fingerOf w) (subRecordOf w) (inRow x).fid = w := by
  cases hx : inLookup (fidOf w) with
  | none => cases (inForm_of_none mk hx).symm.trans h
  | some x =>
    cases (inForm_of_some mk hx).symm.trans h
    exact ⟨x, rfl, by rw [inLookup_some hx, wordOf_fields]⟩

/-- A word without a field that is accepted is its operation code followed by zeros. -/
theorem plainForm_eq_ok {x y : Form} (h : plainForm w x = .ok y) : y = x ∧ opOf w ++ 0#12 = w := by
  unfold plainForm at h
  split_ifs at h with hlow
  cases h
  exact ⟨rfl, by rw [← hlow, append_fields]⟩

end

@[simp] theorem outForm_wordOf (op : BitVec 4) (f t : BitVec 2) (x : OutField) (mk : OutField → Form) :
    outForm (wordOf op f t (outRow x).fid) mk = if t = 0#2 ∧ f = 0#2 then .ok (mk x) else .error .indexRange := by
  simp [outForm_of_some (x := x), outLookup_fid]

@[simp] theorem inForm_wordOf (op : BitVec 4) (f t : BitVec 2) (x : InField) (mk : InField → Form) :
    inForm (wordOf op f t (inRow x).fid) mk = .ok (mk x) := by
  simp [inForm_of_some (x := x), inLookup_fid]

/-! ## Decoding an encoded form -/

/-- Each operation code selects its own arm of the decoder, a field is found under its FID, and values and packets
survive their bytes. -/
theorem decodeForm_encodeForm (x : Form) : decodeForm (encodeForm x) = .ok x := by
  cases x with
  | geto x => simp [encodeForm, decodeForm, payloadLength]
  | seto x v => simp [encodeForm, decodeForm, payloadLength]
  | geti x t f => simp [encodeForm, decodeForm, payloadLength]
  | seti x t f v => simp [encodeForm, decodeForm, payloadLength]
  | rdo | rdi | exec | rst => rfl
  | wro b => simp [encodeForm, decodeForm, payloadLength, plainForm, opOf, lowOf]
  | wri b => simp [encodeForm, decodeForm, payloadLength, plainForm, opOf, lowOf]
  | setind => simp [encodeForm, decodeForm, payloadLength, plainForm, opOf, lowOf]
  | reserved o low => cases o <;> simp [encodeForm, decodeForm, payloadLength, reservedCode]

/-- Settles O5: an instruction is the instruction of its form, and the decoder gives an encoded form back. -/
theorem decodeEncodeAgree : Obligations.DecodeEncodeAgree := by
  intro i
  rw [encode, decode_of_decodeForm_ok (decodeForm_encodeForm i.form), ofForm_form]

/-! ## Every request the decoder can meet -/

/-- What the decoder makes of a request, by its operation code (30_encoding.md R80, R86 to R88): a payload of the wrong
length is rejected, and otherwise the code selects a field operation of format OUT or IN, an operation without a field
or a reserved code. `hmk` and `henc` say which request encodes the form of the answer. -/
inductive Decoded (r : Request) : Prop
  | badLength (hlen : r.payload.length ≠ payloadLength (opOf r.word)) (hd : decodeForm r = .error .illegalRequest)
  | out (mk : OutField → Form) (hop : (opOf r.word).toNat = 1 ∨ (opOf r.word).toNat = 2)
      (hd : decodeForm r = outForm r.word mk)
      (hmk : ∀ x, encodeForm (mk x) = ⟨wordOf (opOf r.word) 0 0 (outRow x).fid, r.payload⟩)
  | inp (mk : InField → Form) (hop : (opOf r.word).toNat = 3 ∨ (opOf r.word).toNat = 4)
      (hd : decodeForm r = inForm r.word mk)
      (hmk : ∀ x, encodeForm (mk x) =
        ⟨wordOf (opOf r.word) (fingerOf r.word) (subRecordOf r.word) (inRow x).fid, r.payload⟩)
  | plain (x : Form) (hop : 5 ≤ (opOf r.word).toNat ∧ (opOf r.word).toNat ≤ 0xB)
      (hd : decodeForm r = plainForm r.word x) (henc : encodeForm x = ⟨opOf r.word ++ 0#12, r.payload⟩)
  | reserved (o : ReservedOp) (hop : (opOf r.word).toNat = 0 ∨ 0xC ≤ (opOf r.word).toNat)
      (hd : decodeForm r = .ok (.reserved o (lowOf r.word)))
      (henc : encodeForm (.reserved o (lowOf r.word)) = ⟨opOf r.word ++ lowOf r.word, r.payload⟩)

/-- No bit of a two-byte payload is dropped (30_encoding.md R82). -/
theorem scalarBytes_scalarOfBytes {l : List Byte} (h : l.length = 2) : scalarBytes (scalarOfBytes l) = l := by
  obtain ⟨a, b, rfl⟩ := List.length_eq_two.mp h
  have hlow : (b ++ a).extractLsb' 0 8 = a := BitVec.extractLsb'_append_eq_right
  have hhigh : (b ++ a).extractLsb' 8 8 = b := BitVec.extractLsb'_append_eq_left
  simp [scalarBytes, scalarOfBytes, hlow, hhigh]

/-- No byte of a packet's payload is dropped (40_codec_access.md R95, R97). -/
theorem packetBytes_packetOfBytes {n : Nat} {l : List Byte} (h : l.length = n) :
    packetBytes (packetOfBytes n l) = l := by
  subst h
  refine List.ext_getElem (length_packetBytes _) fun i hi hl => ?_
  simp [packetBytes, packetOfBytes]

/-- SETIND's payload is its five bytes, read one by one. -/
theorem list_eq_five_getElem {l : List Byte} (h : l.length = 5) : [l[0], l[1], l[2], l[3], l[4]] = l := by
  match l, h with
  | [_, _, _, _, _], _ => rfl

/-- Everything the decoder can do: the length check, then one line per operation code. -/
theorem decoded (r : Request) : Decoded r := by
  obtain ⟨w, l⟩ := r
  by_cases hlen : l.length = payloadLength (opOf w)
  case neg => exact .badLength hlen (by simp [decodeForm, hlen])
  have hop {n : Nat} (h : (opOf w).toNat = n) : opOf w = BitVec.ofNat 4 n := by simp [← h]
  refine match h : (opOf w).toNat with
    | 0x0 => .reserved .op0 (by simp [h]) ?_ ?_
    | 0x1 => .out .geto (.inl h) ?_ fun x => ?_
    | 0x2 => .out (.seto · (scalarOfBytes l)) (.inr h) ?_ fun x => ?_
    | 0x3 => .inp (.geti · (subRecordOf w) (fingerOf w)) (.inl h) ?_ fun x => ?_
    | 0x4 => .inp (.seti · (subRecordOf w) (fingerOf w) (scalarOfBytes l)) (.inr h) ?_ fun x => ?_
    | 0x5 => .plain .rdo (by simp [h]) ?_ ?_
    | 0x6 => .plain (.wro (packetOfBytes Config.outLen l)) (by simp [h]) ?_ ?_
    | 0x7 => .plain .rdi (by simp [h]) ?_ ?_
    | 0x8 => .plain (.wri (packetOfBytes Config.inLen l)) (by simp [h]) ?_ ?_
    | 0x9 => .plain (.setind (l.getD 0 0) (l.getD 1 0) (l.getD 2 0) (l.getD 3 0) (l.getD 4 0)) (by simp [h]) ?_ ?_
    | 0xA => .plain .exec (by simp [h]) ?_ ?_
    | 0xB => .plain .rst (by simp [h]) ?_ ?_
    | 0xC => .reserved .opC (by simp [h]) ?_ ?_
    | 0xD => .reserved .opD (by simp [h]) ?_ ?_
    | 0xE => .reserved .opE (by simp [h]) ?_ ?_
    | 0xF => .reserved .opF (by simp [h]) ?_ ?_
    | n + 16 => absurd (opOf w).isLt (by omega)
  all_goals
    simp only [hop h, payloadLength, BitVec.reduceToNat] at hlen
    simp [decodeForm, encodeForm, reservedCode, payloadLength, hop h, hlen, scalarBytes_scalarOfBytes,
      packetBytes_packetOfBytes, list_eq_five_getElem, List.length_eq_zero_iff.mp]

/-- A request is the encoding of the form it decodes to: an accepted word has no bit but those of the form. -/
theorem encodeForm_of_decodeForm {r : Request} {y : Form} (h : decodeForm r = .ok y) : encodeForm y = r := by
  cases decoded r with
  | badLength _ hd => cases hd.symm.trans h
  | out mk _ hd hmk =>
    obtain ⟨x, rfl, hw⟩ := outForm_eq_ok (hd.symm.trans h)
    rw [hmk, hw]
  | inp mk _ hd hmk =>
    obtain ⟨x, rfl, hw⟩ := inForm_eq_ok (hd.symm.trans h)
    rw [hmk, hw]
  | plain x _ hd henc =>
    obtain ⟨rfl, hw⟩ := plainForm_eq_ok (hd.symm.trans h)
    rw [henc, hw]
  | reserved o _ hd henc =>
    cases hd.symm.trans h
    rw [henc, append_fields]

/-- Settles O6, by the forms: the encoder sees an instruction through its form only. -/
theorem encodeDecodeAgree : Obligations.EncodeDecodeAgree :=
  fun _ _ h => encodeForm_of_decodeForm (decodeForm_of_decode_ok h)

/-- A GETO or SETO word with `T` or `F` not 0 is rejected (30_encoding.md R78, R81). -/
theorem decodeForm_out_indexed {t f : BitVec 2} (h : t ≠ 0 ∨ f ≠ 0) (x : OutField) :
    decodeForm ⟨wordOf 1 f t (outRow x).fid, []⟩ = .error .indexRange ∧
    ∀ v, decodeForm ⟨wordOf 2 f t (outRow x).fid, scalarBytes v⟩ = .error .indexRange := by
  have htf : ¬(t = 0#2 ∧ f = 0#2) := fun ⟨ht, hf⟩ => h.elim (· ht) (· hf)
  simp [decodeForm, payloadLength, htf]

end Sys2Proof

namespace Sys2Proof.Machine

/-! ## Field identifiers -/

theorem outFields_fids : (outFields.map fun x => (outRow x).fid.toNat) = List.range 70 := rfl

theorem inFields_fids : (inFields.map fun x => (inRow x).fid.toNat) = List.range 70 := rfl

/-- A lookup by FID succeeds exactly below `k` where the FIDs of the list are `0, …, k - 1`. -/
theorem find_fid_isSome_iff {α : Type} {xs : List α} {fidAt : α → BitVec 8} {k : Nat}
    (h : (xs.map fun x => (fidAt x).toNat) = List.range k) (fid : BitVec 8) :
    (xs.find? fun x => fidAt x == fid).isSome ↔ fid.toNat < k := by
  rw [← List.mem_range, ← h]
  simp [BitVec.toNat_inj]

theorem outLookup_isSome_iff (fid : BitVec 8) : (outLookup fid).isSome ↔ fid.toNat ≤ 0x45 :=
  (find_fid_isSome_iff outFields_fids fid).trans Nat.lt_succ_iff

theorem inLookup_isSome_iff (fid : BitVec 8) : (inLookup fid).isSome ↔ fid.toNat ≤ 0x45 :=
  (find_fid_isSome_iff inFields_fids fid).trans Nat.lt_succ_iff

theorem getElem?_map_of_eq_range {α : Type} {xs : List α} {g : α → Nat} {n k : Nat} (h : xs.map g = List.range n)
    (hk : k < n) : xs[k]?.map g = some k := by
  rw [← List.getElem?_map, h, List.getElem?_range hk]

/-- Settles O12: the FIDs of either list of fields are `0, …, 69`. -/
theorem fieldIdentifiersDense : Obligations.FieldIdentifiersDense :=
  ⟨outLookup_isSome_iff, inLookup_isSome_iff, outLookup_fid, inLookup_fid,
    fun _ => getElem?_map_of_eq_range outFields_fids, fun _ => getElem?_map_of_eq_range inFields_fids⟩

/-- What holds of every entry of the list holds of every field of format OUT. -/
theorem forall_outField {P : OutField → Prop} (h : ∀ x ∈ outFields, P x) (x : OutField) : P x :=
  h x (List.mem_of_find?_eq_some (outLookup_fid x))

/-- What holds of every entry of the list holds of every field of format IN. -/
theorem forall_inField {P : InField → Prop} (h : ∀ x ∈ inFields, P x) (x : InField) : P x :=
  h x (List.mem_of_find?_eq_some (inLookup_fid x))

/-- No two fields of format IN share a FID. -/
theorem inField_eq_of_fid {x y : InField} (h : (inRow x).fid.toNat = (inRow y).fid.toNat) : x = y :=
  Option.some.inj <| by rw [← inLookup_fid x, ← inLookup_fid y, BitVec.eq_of_toNat_eq h]

/-! ## The faults of a request to a ready block -/

section
variable {s : State}

theorem raise_eq_faulted (c : FaultCause) (k : Nat) (s : State) : raise c k s = s.faulted c k := rfl

/-- A ready block takes the fault under whose name the decoder rejects a request (60_exceptions.md R144). -/
theorem step_rejected {r : Request} {rest : List (Option Request)} {e : DecodeError} (hr : s.presents r rest)
    (hs : s.ready) (hd : decodeForm r = .error e) :
    step s = .next (State.faulted { s with host := rest } (decodeCause e) (responseLength (opOf r.word))) := by
  rw [step_request hr, serve_error (decode_of_decodeForm_error hd), rejectRequest]
  exact congrArg _ (accept_ready _ _ _ hs.1 hs.2)

theorem execForm_reserved_ready (o : ReservedOp) (low : BitVec 12) (hs : s.ready) :
    execForm (.reserved o low) s = .next (s.faulted .illegalRequest 0) := by
  rw [execForm, illegalOperation, accept_ready _ _ _ hs.1 hs.2, raise_eq_faulted]

theorem not_indexOk {r : FieldRow} {t f : BitVec 2} (h : r.nT ≤ t.toNat ∨ r.nF ≤ f.toNat) : ¬indexOk r t f := by
  rw [indexOk_iff]
  omega

theorem not_valueFits {r : FieldRow} {v : Scalar} (h : 2 ^ r.width ≤ v.toNat) : ¬valueFits r v := by
  rw [valueFits_iff]
  omega

end

/-- Settles O9: a payload is rejected by the decoder, the bare code by its instruction. -/
theorem reservedCodesFault : Obligations.ReservedCodesFault := by
  refine ⟨fun i o low s hi hs => ⟨0, ?_⟩, fun s r rest hr hs hop => ?_⟩
  · rw [exec_eq_execForm, hi, execForm_reserved_ready o low hs]
  · cases decoded r with
    | badLength _ hd => exact ⟨_, step_rejected hr hs hd⟩
    | out _ hop' | inp _ hop' | plain _ hop' => omega
    | reserved o _ hd =>
      refine ⟨0, ?_⟩
      rw [step_request hr, serve_instr (decode_of_decodeForm_ok hd), exec_eq_execForm, form_ofForm]
      exact execForm_reserved_ready o _ hs

/-- Settles O10: no field is found above 0x45, and the lookup is the first thing a field operation does. -/
theorem unknownFieldFaults : Obligations.UnknownFieldFaults := by
  intro s r rest hr hs hlo hhi hfid hlen
  refine step_rejected hr hs (e := .unknownField) ?_
  cases decoded r with
  | badLength hlen' => exact absurd hlen hlen'
  | out mk _ hd =>
    have hnone : outLookup (fidOf r.word) = none := by simpa using mt (outLookup_isSome_iff _).mp (by omega)
    rw [hd, outForm_of_none mk hnone]
  | inp mk _ hd =>
    have hnone : inLookup (fidOf r.word) = none := by simpa using mt (inLookup_isSome_iff _).mp (by omega)
    rw [hd, inForm_of_none mk hnone]
  | plain _ hop | reserved _ hop => omega

/-- Settles O11: the length check and the check of bits 11:0 raise the same fault. -/
theorem reservedBitsFault : Obligations.ReservedBitsFault := by
  intro s r rest hr hs hlo hhi hlow
  refine step_rejected hr hs (e := .illegalRequest) ?_
  cases decoded r with
  | badLength _ hd => exact hd
  | plain x _ hd => rw [hd, plainForm, if_neg hlow]
  | out _ hop | inp _ hop | reserved _ hop => omega

/-- Settles O23, by the value check of the two sets. -/
theorem overwideValueFaults : Obligations.OverwideValueFaults := by
  refine ⟨fun i x v s hi hs hv => ?_, fun i x t f v s hi hs ht hf hv => ?_, fun v => v.isLt⟩
  · rw [exec_eq_execForm, hi, execForm, setOut_ready _ _ _ hs.1 hs.2, if_neg (not_valueFits hv), raise_eq_faulted]
  · have hidx : indexOk (inRow x) t f := (indexOk_iff _ t f).mpr ⟨ht, hf⟩
    rw [exec_eq_execForm, hi, execForm, setIn_ready _ _ _ _ _ hs.1 hs.2, if_pos hidx, if_neg (not_valueFits hv),
      raise_eq_faulted]

/-- Settles O24: the tables give the extents; format IN checks its indices when it runs, format OUT when it decodes. -/
theorem indexRangeFaults : Obligations.IndexRangeFaults := by
  refine ⟨forall_outField (by decide), forall_inField (by decide), fun _ _ _ => rfl, fun i x t f s hi hs hidx => ?_,
    fun i x t f v s hi hs hidx => ?_, fun s t f x rest hs htf => ⟨fun hr => ?_, fun v hr => ?_⟩⟩
  · rw [exec_eq_execForm, hi, execForm, getIn_ready _ _ _ _ hs.1 hs.2, if_neg (not_indexOk hidx), raise_eq_faulted]
  · rw [exec_eq_execForm, hi, execForm, setIn_ready _ _ _ _ _ hs.1 hs.2, if_neg (not_indexOk hidx), raise_eq_faulted]
  · obtain ⟨hgeto, -⟩ := decodeForm_out_indexed htf x
    simpa [responseLength, decodeCause] using step_rejected hr hs hgeto
  · obtain ⟨-, hseto⟩ := decodeForm_out_indexed htf x
    simpa [responseLength, decodeCause] using step_rejected hr hs (hseto v)

/-! ## The layout of the fields -/

/-- Settles O13, row by row of the table. -/
theorem outLayoutByIndex : Obligations.OutLayoutByIndex := forall_outField (by decide)

/-- The counter of sub-record `t` is byte `42 + 9t` (30_encoding.md R72). -/
theorem fieldAddr_tpadCounter (t : BitVec 2) {f : BitVec 2} (hf : f.toNat < 1) :
    fieldAddr (inRow .tpadCounter) t f = 8 * (42 + 9 * t.toNat) := by
  simp only [fieldAddr, inRow]
  omega

section
variable (t f : BitVec 2)

/-- The finger entry of `t` and `f` starts at byte `43 + 9t + 4f` (30_encoding.md R73), its contact number at bit 0. -/
theorem fieldAddr_touchId : fieldAddr (inRow .touchId) t f = 8 * (43 + 9 * t.toNat + 4 * f.toNat) := by
  simp only [fieldAddr, inRow]
  omega

theorem fieldAddr_noContact : fieldAddr (inRow .noContact) t f = 8 * (43 + 9 * t.toNat + 4 * f.toNat) + 7 := by
  simp only [fieldAddr, inRow]
  omega

theorem fieldAddr_touchX : fieldAddr (inRow .touchX) t f = 8 * (43 + 9 * t.toNat + 4 * f.toNat) + 8 := by
  simp only [fieldAddr, inRow]
  omega

theorem fieldAddr_touchY : fieldAddr (inRow .touchY) t f = 8 * (43 + 9 * t.toNat + 4 * f.toNat) + 20 := by
  simp only [fieldAddr, inRow]
  omega

end

/-- Settles O14: the five indexed fields by their addresses, the others row by row of the table. -/
theorem inLayoutByIndex : Obligations.InLayoutByIndex := by
  intro x
  refine ⟨?_, ?_, ?_, ?_, ?_, ?_, ?_, ?_, fun h => ?counter, fun h => ?touchId, fun h => ?noContact,
    fun h => ?touchX, fun h => ?touchY, ?_, ?_⟩
  case counter =>
    obtain rfl : x = .tpadCounter := inField_eq_of_fid h
    exact ⟨rfl, rfl, rfl, fun t _ _ hf => fieldAddr_tpadCounter t hf⟩
  case touchId =>
    obtain rfl : x = .touchId := inField_eq_of_fid h
    exact ⟨rfl, rfl, rfl, fun t f _ _ => fieldAddr_touchId t f⟩
  case noContact =>
    obtain rfl : x = .noContact := inField_eq_of_fid h
    exact ⟨rfl, rfl, rfl, fun t f _ _ => fieldAddr_noContact t f⟩
  case touchX =>
    obtain rfl : x = .touchX := inField_eq_of_fid h
    exact ⟨rfl, rfl, rfl, fun t f _ _ => fieldAddr_touchX t f⟩
  case touchY =>
    obtain rfl : x = .touchY := inField_eq_of_fid h
    exact ⟨rfl, rfl, rfl, fun t f _ _ => fieldAddr_touchY t f⟩
  all_goals
    revert x
    exact forall_inField (by decide)

/-- Settles O18: the types row by row of the tables, the typed values by the cases of `typedValue`. -/
theorem inertialFieldsSigned : Obligations.InertialFieldsSigned := by
  refine ⟨forall_inField (by decide), forall_outField (by decide), fun v => ?_, rfl, rfl, fun ty v hbool hs16 => ?_⟩
  · rw [typedValue, signed16_eq_toInt]
  · cases ty with
    | bool => exact absurd rfl hbool
    | s16 => exact absurd rfl hs16
    | u4 | u6 | u7 | u8 | u12 | u16 => rfl

/-! ## Slices of little-endian numbers -/

section
variable {n : Nat}

theorem memRead_lt (p : Packet n) (i k : Nat) : memRead p i k < 2 ^ (8 * k) := by
  induction k with
  | zero => simp [memRead]
  | succ k ih =>
    have hb : (byteAt p (i + k)).toNat * 2 ^ (8 * k) ≤ 255 * 2 ^ (8 * k) :=
      Nat.mul_le_mul_right _ (Nat.le_of_lt_succ (byteAt p (i + k)).isLt)
    rw [memRead, show 8 * (k + 1) = 8 * k + 8 by omega, Nat.pow_add]
    omega

/-- The bits of a little-endian number are the packet's (00_scope.md R8, 20_memory.md R31). -/
theorem testBit_memRead (p : Packet n) (i k j : Nat) :
    (memRead p i k).testBit j = (decide (j < 8 * k) && bitAt p (8 * i + j)) := by
  induction k with
  | zero => simp [memRead]
  | succ k ih =>
    rw [memRead, Nat.add_comm, Nat.mul_comm, Nat.testBit_two_pow_mul_add _ (memRead_lt p i k), ih,
      BitVec.testBit_toNat]
    by_cases hlow : j < 8 * k
    · simp [hlow, show j < 8 * (k + 1) by omega]
    · by_cases htop : j < 8 * (k + 1)
      · simp [hlow, htop, bitAt, show (8 * i + j) / 8 = i + k by omega, show (8 * i + j) % 8 = j - 8 * k by omega]
      · simp [hlow, htop, show 8 ≤ j - 8 * k by omega]

/-- A `BitRead` inside `k` bytes is a slice of their little-endian number. -/
theorem bitRead_eq_slice (p : Packet n) (i k a w : Nat) (hw : w ≤ 16) (ha : a + w ≤ 8 * k) :
    (bitRead p (8 * i + a) w).toNat = memRead p i k / 2 ^ a % 2 ^ w := by
  refine Nat.eq_of_testBit_eq fun j => ?_
  rw [BitVec.testBit_toNat, getLsbD_bitRead _ _ _ _ hw, Nat.testBit_mod_two_pow, Nat.testBit_div_two_pow,
    testBit_memRead, Nat.add_assoc, Nat.add_comm a j]
  by_cases h : j < w
  · simp [h, show j + a < 8 * k by omega]
  · simp [h]

theorem memRead_four (p : Packet n) (i : Nat) :
    memRead p i 4 = (byteAt p i).toNat + 256 * (byteAt p (i + 1)).toNat + 65536 * (byteAt p (i + 2)).toNat +
      16777216 * (byteAt p (i + 3)).toNat := by
  simp only [memRead, Nat.add_zero]
  omega

end

/-- A field that stands at bit `a` of the finger entries is that slice of an entry's number (30_encoding.md R73). -/
theorem bitRead_fingerField (p : InPacket) {x : InField} {t f : BitVec 2} {a : Nat}
    (hx : fieldAddr (inRow x) t f = 8 * (43 + 9 * t.toNat + 4 * f.toNat) + a) (hw : (inRow x).width ≤ 16)
    (ha : a + (inRow x).width ≤ 32) :
    (bitRead p (fieldAddr (inRow x) t f) (inRow x).width).toNat =
      memRead p (43 + 9 * t.toNat + 4 * f.toNat) 4 / 2 ^ a % 2 ^ (inRow x).width := by
  rw [hx, bitRead_eq_slice p _ 4 a _ hw ha]

/-- Settles O17: four slices by the addresses of the fields; the byte forms are their arithmetic. -/
theorem fingerEntrySlices : Obligations.FingerEntrySlices := by
  intro p t f _ _ b w byte field
  have hid : field .touchId = w / 2 ^ 0 % 2 ^ 7 :=
    bitRead_fingerField p (fieldAddr_touchId t f) (by decide) (by decide)
  have hno : field .noContact = w / 2 ^ 7 % 2 :=
    bitRead_fingerField p (fieldAddr_noContact t f) (by decide) (by decide)
  have hx : field .touchX = w / 2 ^ 8 % 2 ^ 12 :=
    bitRead_fingerField p (fieldAddr_touchX t f) (by decide) (by decide)
  have hy : field .touchY = w / 2 ^ 20 % 2 ^ 12 :=
    bitRead_fingerField p (fieldAddr_touchY t f) (by decide) (by decide)
  rw [Nat.pow_zero, Nat.div_one] at hid
  refine ⟨⟨hid, hno, hx, hy⟩, ?_⟩
  have hw : w = byte 0 + 256 * byte 1 + 65536 * byte 2 + 16777216 * byte 3 := memRead_four p b
  have hbyte (j : Nat) : byte j < 256 := (byteAt p (b + j)).isLt
  have := hbyte 0
  have := hbyte 1
  have := hbyte 2
  have := hbyte 3
  rw [hid, hno, hx, hy, hw]
  omega

/-! ## The partition of the packets

A run of bits is a pair of its first address and its length. Sorted by address, the runs of the fields and of the
reserved bits follow one another without gap or overlap. -/

/-- The address `a` is in the run. -/
def inRun (a : Nat) (r : Nat × Nat) : Bool := decide (r.1 ≤ a ∧ a < r.1 + r.2)

/-- The runs follow one another from `lo` up to `hi`. -/
def tiles (lo hi : Nat) : List (Nat × Nat) → Bool
  | [] => lo == hi
  | r :: rs => r.1 == lo && tiles (lo + r.2) hi rs

/-- The runs of the slots and the given runs, by address. -/
def sortedRuns (slots : List Slot) (runs : List (Nat × Nat)) : List (Nat × Nat) :=
  (slots.map (fun x => (x.addr, x.width)) ++ runs).insertionSort fun r q => r.1 ≤ q.1

/-- The runs of `outReserved` (30_encoding.md R59). -/
def outReservedRuns : List (Nat × Nat) := [(33, 7), (306, 6)]

/-- The runs of `inReserved` (30_encoding.md R85). -/
def inReservedRuns : List (Nat × Nat) := [(0, 64), (144, 24), (264, 40), (309, 3), (312, 16), (762, 6)]

/-- In a list of runs that tile an interval each address of the interval is in one run, and no other address is. -/
theorem countP_inRun_of_tiles {lo hi : Nat} {rs : List (Nat × Nat)} (h : tiles lo hi rs) (a : Nat) :
    lo ≤ hi ∧ rs.countP (inRun a) = if lo ≤ a ∧ a < hi then 1 else 0 := by
  induction rs generalizing lo with
  | nil =>
    obtain rfl : lo = hi := by simpa [tiles] using h
    simp
  | cons r rs ih =>
    obtain ⟨hr, htail⟩ : r.1 = lo ∧ tiles (lo + r.2) hi rs = true := by simpa [tiles] using h
    obtain ⟨hle, hcount⟩ := ih htail
    refine ⟨by omega, ?_⟩
    rw [List.countP_cons, hcount]
    simp only [inRun, decide_eq_true_eq]
    split_ifs <;> omega

theorem count_bitsFrom (a b k : Nat) : (bitsFrom b k).count a = if inRun a (b, k) then 1 else 0 := by
  have hrange : bitsFrom b k = List.range' b k := by simp [bitsFrom, List.range'_eq_map_range]
  rw [hrange]
  by_cases h : b ≤ a ∧ a < b + k
  · rw [if_pos (by simpa [inRun] using h), List.count_eq_one_of_mem List.nodup_range' (by simpa using h)]
  · rw [if_neg (by simpa [inRun] using h), List.count_eq_zero_of_not_mem (by simpa using h)]

theorem count_flatMap_bitsFrom (a : Nat) (rs : List (Nat × Nat)) :
    (rs.flatMap fun r => bitsFrom r.1 r.2).count a = rs.countP (inRun a) := by
  induction rs with
  | nil => rfl
  | cons r rs ih => rw [List.flatMap_cons, List.count_append, ih, count_bitsFrom, List.countP_cons, Nat.add_comm]

/-- Slots and reserved addresses whose runs, sorted, tile the first `hi` addresses cover each of these once. -/
theorem covered_once {slots : List Slot} {reserved : List Nat} {runs : List (Nat × Nat)} {hi a : Nat}
    (hres : reserved = runs.flatMap fun r => bitsFrom r.1 r.2) (h : tiles 0 hi (sortedRuns slots runs)) (ha : a < hi) :
    slots.countP (fun x => decide (x.addr ≤ a ∧ a < x.addr + x.width)) + reserved.count a = 1 :=
  calc slots.countP (fun x => decide (x.addr ≤ a ∧ a < x.addr + x.width)) + reserved.count a
    _ = (slots.map (fun x => (x.addr, x.width)) ++ runs).countP (inRun a) := by
      rw [List.countP_append, List.countP_map, hres, count_flatMap_bitsFrom]
      rfl
    _ = (sortedRuns slots runs).countP (inRun a) := ((List.perm_insertionSort _ _).countP_eq _).symm
    _ = 1 := by
      obtain ⟨-, hcount⟩ := countP_inRun_of_tiles h a
      rw [hcount, if_pos ⟨Nat.zero_le a, ha⟩]

theorem outSlots_tile : tiles 0 312 (sortedRuns outSlots outReservedRuns) := by decide

theorem inSlots_tile : tiles 0 768 (sortedRuns inSlots inReservedRuns) := by decide

/-- Settles O15: the runs of either format tile its packet. -/
theorem fieldsPartitionPackets : Obligations.FieldsPartitionPackets :=
  ⟨rfl, rfl, rfl, rfl, fun _ => covered_once rfl outSlots_tile, fun _ => covered_once rfl inSlots_tile⟩

end Sys2Proof.Machine

/-! # The statements of 40_codec_access.md

What makes the slots and the reserved bits of a format a layout of its packet; UNPACK and PACK over a layout; the field
operations of a ready block; the raw operations. -/

namespace Sys2Proof.Machine

/-! ## Layouts -/

/-- The address is one of the slot's bits. -/
abbrev Slot.Covers (x : Slot) (a : Nat) : Prop := x.addr ≤ a ∧ a < x.addr + x.width

/-- Two slots share no bit. -/
def Slot.Apart (x y : Slot) : Prop := x.addr + x.width ≤ y.addr ∨ y.addr + y.width ≤ x.addr

/-- A slot of a packet of `n` bytes has between 1 and 16 bits, all in the packet, and as many as its type asks for where
the typed value is not an unsigned number (30_encoding.md R50). -/
abbrev Slot.Sound (n : Nat) (x : Slot) : Prop :=
  0 < x.width ∧ x.width ≤ 16 ∧ x.addr + x.width ≤ 8 * n ∧
    (x.type = .bool → x.width = 1) ∧ (x.type = .s16 → x.width = 16)

/-- Slots and reserved addresses that cover each bit of a packet of `n` bytes once (30_encoding.md R59, R85). -/
structure Layout (n : Nat) (slots : List Slot) (reserved : List Nat) : Prop where
  sound : ∀ x ∈ slots, x.Sound n
  reserved_lt : ∀ a ∈ reserved, a < 8 * n
  once : ∀ a, a < 8 * n → slots.countP (fun x => decide (x.Covers a)) + reserved.count a = 1

theorem outLayout : Layout 39 outSlots outReserved :=
  ⟨by decide, by decide, fun _ => covered_once rfl outSlots_tile⟩

theorem inLayout : Layout 96 inSlots inReserved := by
  refine ⟨by decide, fun a ha => ?_, fun _ => covered_once rfl inSlots_tile⟩
  simp only [inReserved, bitsFrom, List.mem_append, List.mem_map, List.mem_range] at ha
  omega

theorem Slot.Apart.symm {x y : Slot} (h : x.Apart y) : y.Apart x := Or.symm h

/-- Slots that share no bit address are apart. -/
theorem Slot.apart_of_not_covers {x y : Slot} (hx : 0 < x.width) (hy : 0 < y.width)
    (h : ∀ a, x.Covers a → ¬y.Covers a) : x.Apart y := by
  have hxa := h x.addr
  have hya := h y.addr
  simp only [Slot.Covers, Slot.Apart] at *
  omega

/-- Slots no two of which cover the same address are pairwise apart. -/
theorem pairwise_apart_of_countP_le_one {slots : List Slot} (hpos : ∀ x ∈ slots, 0 < x.width)
    (h : ∀ a, slots.countP (fun x => decide (x.Covers a)) ≤ 1) : slots.Pairwise Slot.Apart := by
  induction slots with
  | nil => exact .nil
  | cons x xs ih =>
    obtain ⟨hx, hxs⟩ := List.forall_mem_cons.mp hpos
    simp only [List.countP_cons] at h
    refine List.pairwise_cons.mpr ⟨fun y hy => ?_, ih hxs fun a => (Nat.le_add_right _ _).trans (h a)⟩
    refine Slot.apart_of_not_covers hx (hxs y hy) fun a hxa hya => ?_
    have hcount : 0 < xs.countP (fun z => decide (z.Covers a)) := List.countP_pos_iff.mpr ⟨y, hy, by simpa using hya⟩
    have := h a
    rw [if_pos (decide_eq_true hxa)] at this
    omega

namespace Layout

variable {n : Nat} {slots : List Slot} {reserved : List Nat}

/-- No two slots share a bit. -/
theorem apart (L : Layout n slots reserved) : slots.Pairwise Slot.Apart := by
  refine pairwise_apart_of_countP_le_one (fun x hx => (L.sound x hx).1) fun a => ?_
  by_cases ha : a < 8 * n
  · have := L.once a ha
    omega
  · rw [List.countP_eq_zero.mpr fun x hx => ?_]
    · exact Nat.zero_le 1
    · obtain ⟨-, -, hin, -⟩ := L.sound x hx
      simp only [decide_eq_true_eq, Slot.Covers]
      omega

theorem slots_nodup (L : Layout n slots reserved) : slots.Nodup := by
  refine L.apart.imp_of_mem fun {x y} hx _ hxy => ?_
  rintro rfl
  obtain ⟨hpos, -⟩ := L.sound x hx
  simp only [Slot.Apart] at hxy
  omega

theorem reserved_nodup (L : Layout n slots reserved) : reserved.Nodup := by
  refine List.nodup_iff_count_le_one.mpr fun a => ?_
  by_cases ha : a ∈ reserved
  · have := L.once a (L.reserved_lt a ha)
    omega
  · rw [List.count_eq_zero_of_not_mem ha]
    exact Nat.zero_le 1

/-- The reserved bits are the bits of the packet that no slot covers. -/
theorem mem_reserved_iff (L : Layout n slots reserved) (a : Nat) :
    a ∈ reserved ↔ a < 8 * n ∧ ∀ y ∈ slots, ¬y.Covers a := by
  constructor
  · intro ha
    have hlt := L.reserved_lt a ha
    have honce := L.once a hlt
    have hpos := List.count_pos_iff.mpr ha
    have hzero : slots.countP (fun x => decide (x.Covers a)) = 0 := by omega
    exact ⟨hlt, by simpa using List.countP_eq_zero.mp hzero⟩
  · rintro ⟨hlt, hfree⟩
    have honce := L.once a hlt
    rw [List.countP_eq_zero.mpr (by simpa using hfree), Nat.zero_add] at honce
    exact List.count_pos_iff.mp (by omega)

end Layout

/-! ## Typed values and raw bits -/

theorem eq_ite_of_toNat_lt_two {v : Scalar} (h : v.toNat < 2 ^ 1) : v = if v.getLsbD 0 then 1#16 else 0#16 := by
  refine BitVec.eq_of_toNat_eq ?_
  rw [BitVec.getLsbD]
  have : v.toNat = 0 ∨ v.toNat = 1 := by omega
  rcases this with h | h <;> simp [h]

/-- Raw bits as wide as their type survive their typed value. -/
theorem rawValue_typedValue {type : FieldType} {v : Scalar} (h : type = .bool → v.toNat < 2 ^ 1) :
    rawValue (typedValue type v) = v := by
  cases type with
  | bool => exact (eq_ite_of_toNat_lt_two (h rfl)).symm
  | s16 => exact ofInt_signed16 v
  | u4 | u6 | u7 | u8 | u12 | u16 => simp [typedValue, rawValue]

section
variable {n : Nat} {x : Slot} {u : FieldValue}

/-- A value in range fits its slot. -/
theorem rawValue_lt (hx : x.Sound n) (hu : valueInRange x u = true) : (rawValue u).toNat < 2 ^ x.width := by
  obtain ⟨-, h16, -, hbool, hs16⟩ := hx
  cases u with
  | bool b =>
    rw [hbool (by simpa [valueInRange] using hu)]
    cases b <;> decide
  | unsigned m =>
    obtain ⟨-, hm⟩ : _ ∧ m < 2 ^ x.width := by simpa [valueInRange] using hu
    exact (Nat.mod_le m (2 ^ 16)).trans_lt hm
  | signed z =>
    obtain ⟨⟨htype, -⟩, -⟩ : (x.type = .s16 ∧ _) ∧ _ := by simpa [valueInRange] using hu
    rw [hs16 htype]
    exact (rawValue _).isLt

/-- A value in range survives its raw bits. -/
theorem typedValue_rawValue (hx : x.Sound n) (hu : valueInRange x u = true) : typedValue x.type (rawValue u) = u := by
  obtain ⟨-, h16, -⟩ := hx
  cases u with
  | bool b =>
    have htype : x.type = .bool := by simpa [valueInRange] using hu
    rw [htype]
    cases b <;> rfl
  | unsigned m =>
    obtain ⟨⟨hbool, hs16⟩, hm⟩ : (x.type ≠ .bool ∧ x.type ≠ .s16) ∧ m < 2 ^ x.width := by
      simpa [valueInRange] using hu
    have hm16 : m < 2 ^ 16 := lt_of_lt_of_le hm (Nat.pow_le_pow_right (by omega) h16)
    obtain ⟨-, -, -, -, -, hunsigned⟩ := inertialFieldsSigned
    rw [hunsigned _ _ hbool hs16, rawValue, BitVec.toNat_ofNat, Nat.mod_eq_of_lt hm16]
  | signed z =>
    obtain ⟨⟨htype, hlo⟩, hhi⟩ : (x.type = .s16 ∧ -32768 ≤ z) ∧ z ≤ 32767 := by simpa [valueInRange] using hu
    rw [htype, typedValue, rawValue, signed16_eq_toInt, BitVec.toInt_ofInt]
    exact congrArg _ (Int.bmod_eq_of_le (by omega) (by omega))

/-- What UNPACK makes of a slot's bits is their typed read (30_encoding.md R76, R77). -/
theorem typedValue_isTypedRead (hx : x.Sound n) (p : Packet n) :
    (typedValue x.type (bitRead p x.addr x.width)).isTypedRead x.type p x.addr x.width := by
  obtain ⟨hpos, h16, -, hbool, hs16⟩ := hx
  have hbit (k : Nat) (hk : k < x.width) : (bitRead p x.addr x.width).getLsbD k = bitAt p (x.addr + k) := by
    simp [getLsbD_bitRead _ _ _ _ h16, hk]
  cases htype : x.type with
  | bool => exact ⟨rfl, hbit 0 hpos⟩
  | s16 =>
    rw [typedValue, signed16_eq_toInt]
    refine ⟨rfl, BitVec.le_toInt _, Int.le_of_lt_add_one (BitVec.toInt_lt), fun k hk => ?_⟩
    rw [BitVec.ofInt_toInt, hbit k (by rw [hs16 htype]; exact hk)]
  | u4 | u6 | u7 | u8 | u12 | u16 =>
    refine ⟨by decide, by decide, bitRead_lt p _ _ h16, fun k hk => ?_⟩
    rw [BitVec.testBit_toNat, hbit k hk]

end

/-! ## UNPACK and PACK -/

/-- A list is the image of another of its length if it is so pair by pair. -/
theorem map_eq_of_zip {α β : Type} {f : α → β} {l : List α} {m : List β} (hlen : l.length = m.length)
    (h : ∀ a b, (a, b) ∈ l.zip m → f a = b) : l.map f = m := by
  rw [← List.forall₂_eq_eq_eq, List.forall₂_map_left_iff, List.forall₂_iff_zip]
  exact ⟨hlen, h _ _⟩

section
variable {n : Nat}

/-- Reserved bits written one by one over distinct addresses are all there. -/
theorem bitAt_writeBits_mem (p : Packet n) {as : List Nat} {bs : List Bool} {a : Nat} {b : Bool} (has : as.Nodup)
    (hab : (a, b) ∈ as.zip bs) (ha : a < 8 * n) : bitAt (writeBits p as bs) a = b := by
  induction as generalizing p bs with
  | nil => simp at hab
  | cons c as ih =>
    obtain ⟨hc, has⟩ := List.nodup_cons.mp has
    cases bs with
    | nil => simp at hab
    | cons d bs =>
      rw [writeBits]
      rcases List.mem_cons.mp hab with h | h
      · cases h
        rw [bitAt_writeBits_other _ _ _ hc, bitAt_setBit, if_pos ⟨rfl, ha⟩]
      · exact ih _ has h

/-- Values that fit, written one by one into slots that are apart, are all there. -/
theorem bitRead_writeSlots_mem (p : Packet n) {xs : List Slot} {vs : List FieldValue} {x : Slot} {v : FieldValue}
    (hxs : xs.Pairwise Slot.Apart) (hxv : (x, v) ∈ xs.zip vs) (hx : x.Sound n)
    (hv : (rawValue v).toNat < 2 ^ x.width) : bitRead (writeSlots p xs vs) x.addr x.width = rawValue v := by
  obtain ⟨-, h16, hin, -⟩ := hx
  induction xs generalizing p vs with
  | nil => simp at hxv
  | cons y xs ih =>
    obtain ⟨hy, hxs⟩ := List.pairwise_cons.mp hxs
    cases vs with
    | nil => simp at hxv
    | cons w vs =>
      rw [writeSlots]
      rcases List.mem_cons.mp hxv with h | h
      · cases h
        calc bitRead (writeSlots (bitWrite p x.addr x.width (rawValue v)) xs vs) x.addr x.width
          _ = bitRead (bitWrite p x.addr x.width (rawValue v)) x.addr x.width := by
            refine bitRead_congr fun k hk => bitAt_writeSlots_other _ _ _ fun z hz => ?_
            have := hy z hz
            simp only [Slot.Apart] at this
            omega
          _ = rawValue v := bitRead_bitWrite_self p _ _ _ h16 hin hv
      · exact ih _ hxs h

namespace Layout

variable {slots : List Slot} {reserved : List Nat}

/-- PACK leaves a slot's value in its bits (40_codec_access.md R101). -/
theorem bitRead_pack (L : Layout n slots reserved) {v : View} {x : Slot} {u : FieldValue}
    (hxu : (x, u) ∈ slots.zip v.values) (hu : (rawValue u).toNat < 2 ^ x.width) :
    bitRead (pack slots reserved v : Packet n) x.addr x.width = rawValue u :=
  bitRead_writeSlots_mem _ L.apart hxu (L.sound x (List.of_mem_zip hxu).1) hu

/-- PACK leaves a reserved bit at its address (40_codec_access.md R101). -/
theorem bitAt_pack (L : Layout n slots reserved) {v : View} {a : Nat} {b : Bool} (hab : (a, b) ∈ reserved.zip v.resv) :
    bitAt (pack slots reserved v : Packet n) a = b := by
  obtain ⟨hlt, hfree⟩ := (L.mem_reserved_iff a).mp (List.of_mem_zip hab).1
  rw [pack, bitAt_writeSlots_other _ _ _ hfree, bitAt_writeBits_mem _ L.reserved_nodup hab hlt]

/-- Every bit of a packet is a slot's or a reserved one, and PACK puts back what UNPACK took from there. -/
theorem pack_unpack (L : Layout n slots reserved) (p : Packet n) :
    pack slots reserved (unpack slots reserved p) = p := by
  refine packet_ext_bits fun a ha => ?_
  by_cases hres : a ∈ reserved
  · refine L.bitAt_pack ?_
    rw [unpack, ← List.map_prod_left_eq_zip]
    exact List.mem_map_of_mem hres
  · obtain ⟨x, hx, hlo, hhi⟩ : ∃ x ∈ slots, x.Covers a := by
      simpa [L.mem_reserved_iff, ha] using hres
    obtain ⟨-, h16, -, hbool, -⟩ := L.sound x hx
    have hlt := bitRead_lt p x.addr x.width h16
    have hraw : rawValue (typedValue x.type (bitRead p x.addr x.width)) = bitRead p x.addr x.width :=
      rawValue_typedValue fun h => by rwa [hbool h] at hlt ⊢
    have hmem : (x, typedValue x.type (bitRead p x.addr x.width)) ∈ slots.zip (unpack slots reserved p).values := by
      rw [unpack, ← List.map_prod_left_eq_zip]
      exact List.mem_map_of_mem hx
    have hread := L.bitRead_pack hmem (by rwa [hraw])
    rw [hraw] at hread
    have hbit := congrArg (·.getLsbD (a - x.addr)) hread
    simpa [getLsbD_bitRead _ _ _ _ h16, show a - x.addr < x.width by omega, Nat.add_sub_cancel' hlo] using hbit

/-- UNPACK reads back every value in range and every reserved bit that PACK wrote. -/
theorem unpack_pack (L : Layout n slots reserved) {v : View} (hv : viewInRange slots reserved v = true) :
    unpack slots reserved (pack slots reserved v : Packet n) = v := by
  obtain ⟨⟨hvalues, hresv⟩, hrange⟩ :
      (v.values.length = slots.length ∧ v.resv.length = reserved.length) ∧
        ∀ x u, (x, u) ∈ slots.zip v.values → valueInRange x u = true := by
    simpa [viewInRange] using hv
  have hread (x : Slot) (u : FieldValue) (h : (x, u) ∈ slots.zip v.values) :
      typedValue x.type (bitRead (pack slots reserved v : Packet n) x.addr x.width) = u := by
    have hx := L.sound x (List.of_mem_zip h).1
    rw [L.bitRead_pack h (rawValue_lt hx (hrange x u h)), typedValue_rawValue hx (hrange x u h)]
  rw [unpack, map_eq_of_zip hvalues.symm hread, map_eq_of_zip hresv.symm fun _ _ => L.bitAt_pack]

end Layout

end

/-- Settles O32: either format is a layout of its packet. -/
theorem packUnpackIdentity : Obligations.PackUnpackIdentity := ⟨outLayout.pack_unpack, inLayout.pack_unpack⟩

/-- Settles O33: either format is a layout of its packet. -/
theorem unpackPackIdentity : Obligations.UnpackPackIdentity :=
  ⟨fun _ => outLayout.unpack_pack, fun _ => inLayout.unpack_pack⟩

/-! ## The typed view -/

theorem mem_rowSlots {r : FieldRow} {t f : BitVec 2} (ht : t.toNat < r.nT) (hf : f.toNat < r.nF) :
    ⟨fieldAddr r t f, r.width, r.type⟩ ∈ rowSlots r :=
  List.mem_map.mpr ⟨(t.toNat, f.toNat), by simp [rowIndices, ht, hf], by simp⟩

theorem mem_outFields (x : OutField) : x ∈ outFields := List.mem_of_find?_eq_some (outLookup_fid x)

theorem mem_inFields (x : InField) : x ∈ inFields := List.mem_of_find?_eq_some (inLookup_fid x)

/-- A field of format OUT has one slot, at its bit address: no field of it is indexed (30_encoding.md R78). -/
theorem mem_rowSlots_outRow (x : OutField) :
    ⟨(outRow x).a0, (outRow x).width, (outRow x).type⟩ ∈ rowSlots (outRow x) := by
  obtain ⟨hextents, -⟩ := indexRangeFaults
  obtain ⟨hT, hF⟩ := hextents x
  exact mem_rowSlots (t := 0) (f := 0) (by simp [hT]) (by simp [hF])

theorem mem_outSlots (x : OutField) : ⟨(outRow x).a0, (outRow x).width, (outRow x).type⟩ ∈ outSlots :=
  List.mem_flatMap.mpr ⟨x, mem_outFields x, mem_rowSlots_outRow x⟩

/-- A field of format IN at legal indices is a slot (30_encoding.md R78). -/
theorem mem_inSlots {x : InField} {t f : BitVec 2} (ht : t.toNat < (inRow x).nT) (hf : f.toNat < (inRow x).nF) :
    ⟨fieldAddr (inRow x) t f, (inRow x).width, (inRow x).type⟩ ∈ inSlots :=
  List.mem_flatMap.mpr ⟨x, mem_inFields x, mem_rowSlots ht hf⟩

/-- UNPACK has a typed read of every slot (40_codec_access.md R100). -/
theorem Layout.exists_typedRead {n : Nat} {slots : List Slot} {reserved : List Nat} (L : Layout n slots reserved)
    (p : Packet n) {x : Slot} (hx : x ∈ slots) :
    ∃ (k : Nat) (u : FieldValue), slots[k]? = some x ∧ (unpack slots reserved p).values[k]? = some u ∧
      u.isTypedRead x.type p x.addr x.width := by
  obtain ⟨k, hk⟩ := List.mem_iff_getElem?.mp hx
  exact ⟨k, _, hk, by rw [unpack_value, hk]; rfl, typedValue_isTypedRead (L.sound x hx) p⟩

/-- Runs that follow one another list their addresses in order. -/
theorem pairwise_flatMap_bitsFrom {runs : List (Nat × Nat)} (h : runs.Pairwise fun r q => r.1 + r.2 ≤ q.1) :
    (runs.flatMap fun r => bitsFrom r.1 r.2).Pairwise (· < ·) := by
  have hrange (r : Nat × Nat) : bitsFrom r.1 r.2 = List.range' r.1 r.2 := by
    simp [bitsFrom, List.range'_eq_map_range]
  simp only [hrange]
  refine List.pairwise_flatMap.mpr ⟨fun r _ => List.pairwise_lt_range' 1, h.imp fun hrq a ha b hb => ?_⟩
  rw [List.mem_range'_1] at ha hb
  omega

theorem outReserved_pairwise : outReserved.Pairwise (· < ·) :=
  pairwise_flatMap_bitsFrom (runs := outReservedRuns) (by decide)

theorem inReserved_pairwise : inReserved.Pairwise (· < ·) :=
  pairwise_flatMap_bitsFrom (runs := inReservedRuns) (by decide)

/-- Settles O56: every field at legal indices is a slot of its format's layout, and UNPACK reads every slot. -/
theorem unpackReadsEveryField : Obligations.UnpackReadsEveryField :=
  ⟨fun p => ⟨fun x => outLayout.exists_typedRead p (mem_outSlots x), rfl, outLayout.slots_nodup, rfl, rfl⟩,
    fun p => ⟨fun _ _ _ ht hf => inLayout.exists_typedRead p (mem_inSlots ht hf), rfl, inLayout.slots_nodup, rfl, rfl⟩,
    ⟨rfl, outReserved_pairwise, outLayout.mem_reserved_iff⟩, ⟨rfl, inReserved_pairwise, inLayout.mem_reserved_iff⟩⟩

/-! ## Field operations in a ready block -/

/-- The bits of a field of format IN at the given indices (40_codec_access.md R92). -/
def readIn (p : InPacket) (x : InField) (t f : BitVec 2) : Scalar :=
  bitRead p (fieldAddr (inRow x) t f) (inRow x).width

/-- The Input Packet with a field written at the given indices (40_codec_access.md R93). -/
def writeIn (p : InPacket) (x : InField) (t f : BitVec 2) (v : Scalar) : InPacket :=
  bitWrite p (fieldAddr (inRow x) t f) (inRow x).width v

section
variable {i : Instr} {s : State}

theorem ready_with_host {l : List (Option Request)} (hs : s.ready) : State.ready { s with host := l } := hs

theorem exec_geto {x : OutField} {v : Scalar} (hi : i.form = .geto x) (hs : s.ready)
    (hv : bitRead s.outpkt (outRow x).a0 (outRow x).width = v) :
    exec i s = .next { s with rsp := okResponse (scalarBytes v) } := by
  rw [exec_eq_execForm, hi, execForm, getOut_ready _ _ hs.1 hs.2, hv]
  rfl

theorem exec_seto {x : OutField} {v : Scalar} (hi : i.form = .seto x v) (hs : s.ready)
    (hv : v.toNat < 2 ^ (outRow x).width) :
    exec i s = .next { s with
      outpkt := bitWrite s.outpkt (outRow x).a0 (outRow x).width v, rsp := okResponse [] } := by
  rw [exec_eq_execForm, hi, execForm, setOut_ready _ _ _ hs.1 hs.2, if_pos ((valueFits_iff _ v).mpr hv)]
  rfl

theorem exec_geti {x : InField} {t f : BitVec 2} {v : Scalar} (hi : i.form = .geti x t f) (hs : s.ready)
    (ht : t.toNat < (inRow x).nT) (hf : f.toNat < (inRow x).nF) (hv : readIn s.inpkt x t f = v) :
    exec i s = .next { s with rsp := okResponse (scalarBytes v) } := by
  rw [exec_eq_execForm, hi, execForm, getIn_ready _ _ _ _ hs.1 hs.2, if_pos ((indexOk_iff _ t f).mpr ⟨ht, hf⟩), ← hv]
  rfl

theorem exec_seti {x : InField} {t f : BitVec 2} {v : Scalar} (hi : i.form = .seti x t f v) (hs : s.ready)
    (ht : t.toNat < (inRow x).nT) (hf : f.toNat < (inRow x).nF) (hv : v.toNat < 2 ^ (inRow x).width) :
    exec i s = .next { s with inpkt := writeIn s.inpkt x t f v, rsp := okResponse [] } := by
  rw [exec_eq_execForm, hi, execForm, setIn_ready _ _ _ _ _ hs.1 hs.2, if_pos ((indexOk_iff _ t f).mpr ⟨ht, hf⟩),
    if_pos ((valueFits_iff _ v).mpr hv)]
  rfl

end

/-- A `BitWrite` inside the packet writes its bits and no other. -/
theorem bitAt_bitWrite_inside {n : Nat} (p : Packet n) {a w : Nat} (h : a + w ≤ 8 * n) (v : Scalar) (x : Nat) :
    bitAt (bitWrite p a w v) x = if a ≤ x ∧ x < a + w then v.getLsbD (x - a) else bitAt p x := by
  rw [bitAt_bitWrite]
  exact if_congr (by omega) rfl rfl

theorem outRow_bounds (x : OutField) : (outRow x).width ≤ 16 ∧ (outRow x).a0 + (outRow x).width ≤ 8 * 39 := by
  obtain ⟨-, h16, hin, -⟩ := outLayout.sound _ (mem_outSlots x)
  exact ⟨h16, hin⟩

theorem inRow_bounds {x : InField} {t f : BitVec 2} (ht : t.toNat < (inRow x).nT) (hf : f.toNat < (inRow x).nF) :
    (inRow x).width ≤ 16 ∧ fieldAddr (inRow x) t f + (inRow x).width ≤ 8 * 96 := by
  obtain ⟨-, h16, hin, -⟩ := inLayout.sound _ (mem_inSlots ht hf)
  exact ⟨h16, hin⟩

/-- Settles O19, by what `BitRead` returns. -/
theorem getoReturnsField : Obligations.GetoReturnsField := by
  intro i x s hi hs
  exact ⟨_, exec_geto hi hs rfl, fun k => getLsbD_bitRead _ _ _ k (outRow_bounds x).1⟩

/-- Settles O20, by what `BitWrite` does to one bit. -/
theorem setoWritesField : Obligations.SetoWritesField := by
  intro i x v s hi hs hv
  exact ⟨_, exec_seto hi hs hv, bitAt_bitWrite_inside _ (outRow_bounds x).2 v⟩

/-- Settles O21, by what `BitRead` returns. -/
theorem getiReturnsField : Obligations.GetiReturnsField := by
  intro i x t f s hi hs ht hf
  exact ⟨_, exec_geti hi hs ht hf rfl, fun k => getLsbD_bitRead _ _ _ k (inRow_bounds ht hf).1⟩

/-- Settles O22, by what `BitWrite` does to one bit. -/
theorem setiWritesField : Obligations.SetiWritesField := by
  intro i x t f v s hi hs ht hf hv
  exact ⟨_, exec_seti hi hs ht hf hv, bitAt_bitWrite_inside _ (inRow_bounds ht hf).2 v⟩

/-- Settles O25: the bits read are the bits just written. -/
theorem setThenGet : Obligations.SetThenGet := by
  refine ⟨fun i j x v s hi hj hs hv => ⟨_, exec_seto hi hs hv, ?_⟩,
    fun i j x t f v s hi hj hs ht hf hv => ⟨_, exec_seti hi hs ht hf hv, ?_⟩⟩
  · obtain ⟨h16, hin⟩ := outRow_bounds x
    exact exec_geto hj hs (bitRead_bitWrite_self _ _ _ _ h16 hin hv)
  · obtain ⟨h16, hin⟩ := inRow_bounds ht hf
    exact exec_geti hj hs ht hf (bitRead_bitWrite_self _ _ _ _ h16 hin hv)

/-! ## What a set leaves alone -/

/-- In a layout made field by field, the slots of distinct fields are apart. -/
theorem apart_of_field_ne {α : Type} {fields : List α} {slotsOf : α → List Slot}
    (h : (fields.flatMap slotsOf).Pairwise Slot.Apart) {x y : α} (hx : x ∈ fields) (hy : y ∈ fields) (hxy : x ≠ y) :
    ∀ a ∈ slotsOf x, ∀ b ∈ slotsOf y, a.Apart b := by
  obtain ⟨-, hfields⟩ := List.pairwise_flatMap.mp h
  have : Std.Symm fun x y => ∀ a ∈ slotsOf x, ∀ b ∈ slotsOf y, a.Apart b :=
    ⟨fun _ _ h b hb a ha => (h a ha b hb).symm⟩
  exact hfields.forall hx hy hxy

/-- Distinct fields of format OUT are apart. -/
theorem outField_apart {x y : OutField} (hxy : x ≠ y) :
    Slot.Apart ⟨(outRow x).a0, (outRow x).width, (outRow x).type⟩
      ⟨(outRow y).a0, (outRow y).width, (outRow y).type⟩ :=
  apart_of_field_ne outLayout.apart (mem_outFields x) (mem_outFields y) hxy _ (mem_rowSlots_outRow x) _
    (mem_rowSlots_outRow y)

/-- A field has no two legal index pairs at one address (30_encoding.md R78). -/
theorem fieldAddr_inj {x : InField} {t f t' f' : BitVec 2} (hf : f.toNat < (inRow x).nF) (hf' : f'.toNat < (inRow x).nF)
    (h : fieldAddr (inRow x) t f = fieldAddr (inRow x) t' f') : t = t' ∧ f = f' := by
  have hF : (inRow x).nF ≤ 2 := forall_inField (P := fun x => (inRow x).nF ≤ 2) (by decide) x
  simp only [fieldAddr] at h
  exact ⟨BitVec.eq_of_toNat_eq (by omega), BitVec.eq_of_toNat_eq (by omega)⟩

/-- Distinct fields of format IN, and one field at distinct indices, are apart. -/
theorem inField_apart {x y : InField} {t f t' f' : BitVec 2} (ht : t.toNat < (inRow x).nT)
    (hf : f.toNat < (inRow x).nF) (ht' : t'.toNat < (inRow y).nT) (hf' : f'.toNat < (inRow y).nF)
    (hne : (x, t, f) ≠ (y, t', f')) :
    Slot.Apart ⟨fieldAddr (inRow x) t f, (inRow x).width, (inRow x).type⟩
      ⟨fieldAddr (inRow y) t' f', (inRow y).width, (inRow y).type⟩ := by
  by_cases hxy : x = y
  · subst hxy
    have : Std.Symm Slot.Apart := ⟨fun _ _ => Slot.Apart.symm⟩
    refine inLayout.apart.forall (mem_inSlots ht hf) (mem_inSlots ht' hf') fun h => hne ?_
    obtain ⟨rfl, rfl⟩ := fieldAddr_inj hf hf' (congrArg Slot.addr h)
    rfl
  · exact apart_of_field_ne inLayout.apart (mem_inFields x) (mem_inFields y) hxy _ (mem_rowSlots ht hf) _
      (mem_rowSlots ht' hf')

/-- Writing a slot leaves the reserved bits alone (40_codec_access.md R99). -/
theorem Layout.bitAt_bitWrite_reserved {n : Nat} {slots : List Slot} {reserved : List Nat}
    (L : Layout n slots reserved) {x : Slot} (hx : x ∈ slots) (p : Packet n) (v : Scalar) :
    ∀ a ∈ reserved, bitAt (bitWrite p x.addr x.width v) a = bitAt p a := by
  intro a ha
  obtain ⟨-, hfree⟩ := (L.mem_reserved_iff a).mp ha
  obtain ⟨-, -, hin, -⟩ := L.sound x hx
  rw [bitAt_bitWrite_inside p hin, if_neg (hfree x hx)]

section
variable (p : InPacket) {x y : InField} {t f t' f' : BitVec 2} {v : Scalar}

theorem readIn_writeIn_self (ht : t.toNat < (inRow x).nT) (hf : f.toNat < (inRow x).nF)
    (hv : v.toNat < 2 ^ (inRow x).width) : readIn (writeIn p x t f v) x t f = v :=
  bitRead_bitWrite_self _ _ _ _ (inRow_bounds ht hf).1 (inRow_bounds ht hf).2 hv

theorem readIn_writeIn_other (ht : t.toNat < (inRow x).nT) (hf : f.toNat < (inRow x).nF)
    (ht' : t'.toNat < (inRow y).nT) (hf' : f'.toNat < (inRow y).nF) (hne : (x, t, f) ≠ (y, t', f')) :
    readIn (writeIn p y t' f' v) x t f = readIn p x t f :=
  bitRead_bitWrite_disjoint _ _ _ _ _ _ (inField_apart ht hf ht' hf' hne)

end

/-- Settles O26: the slots of a format are apart from one another and from its reserved bits. -/
theorem setLeavesOtherFields : Obligations.SetLeavesOtherFields := by
  refine ⟨fun i x v s u hi hs hv hu => ?_, fun i x t f v s u hi hs ht hf hv hu => ?_⟩
  · cases (exec_seto hi hs hv).symm.trans hu
    exact ⟨fun y hyx => bitRead_bitWrite_disjoint _ _ _ _ _ _ (outField_apart hyx),
      outLayout.bitAt_bitWrite_reserved (mem_outSlots x) _ v, rfl⟩
  · cases (exec_seti hi hs ht hf hv).symm.trans hu
    exact ⟨fun y t' f' ht' hf' hne => readIn_writeIn_other _ ht' hf' ht hf hne,
      inLayout.bitAt_bitWrite_reserved (mem_inSlots ht hf) _ v, rfl⟩

/-! ## Touch entries -/

/-- The Input Packet with the four fields of a finger entry written one after the other (40_codec_access.md R103). -/
def setTouchEntry (p : InPacket) (t f : BitVec 2) (id contact x y : Scalar) : InPacket :=
  writeIn (writeIn (writeIn (writeIn p .touchId t f id) .noContact t f contact) .touchX t f x) .touchY t f y

section
variable (p : InPacket) {t f : BitVec 2} {id contact x y : Scalar}

/-- Each of the four fields holds the value written: the later writes are to other fields. -/
theorem readIn_setTouchEntry (ht : t.toNat < 3) (hf : f.toNat < 2) (hid : id.toNat < 2 ^ 7)
    (hcontact : contact.toNat < 2 ^ 1) (hx : x.toNat < 2 ^ 12) (hy : y.toNat < 2 ^ 12) :
    let q := setTouchEntry p t f id contact x y
    readIn q .touchId t f = id ∧ readIn q .noContact t f = contact ∧ readIn q .touchX t f = x ∧
      readIn q .touchY t f = y := by
  refine ⟨?_, ?_, ?_, ?_⟩
  · rw [setTouchEntry, readIn_writeIn_other (y := .touchY), readIn_writeIn_other (y := .touchX),
      readIn_writeIn_other (y := .noContact), readIn_writeIn_self _ ht hf hid] <;> simp [inRow, ht, hf]
  · rw [setTouchEntry, readIn_writeIn_other (y := .touchY), readIn_writeIn_other (y := .touchX),
      readIn_writeIn_self _ ht hf hcontact] <;> simp [inRow, ht, hf]
  · rw [setTouchEntry, readIn_writeIn_other (y := .touchY), readIn_writeIn_self _ ht hf hx] <;> simp [inRow, ht, hf]
  · rw [setTouchEntry, readIn_writeIn_self _ ht hf hy]

/-- Only the four bytes of the entry are written. -/
theorem byteAt_setTouchEntry_other {i : Nat}
    (h : i < 43 + 9 * t.toNat + 4 * f.toNat ∨ 43 + 9 * t.toNat + 4 * f.toNat + 4 ≤ i) :
    byteAt (setTouchEntry p t f id contact x y) i = byteAt p i := by
  simp only [setTouchEntry, writeIn, fieldAddr_touchId, fieldAddr_noContact, fieldAddr_touchX, fieldAddr_touchY]
  simp only [inRow]
  rw [byteAt_bitWrite_other _ _ _ _ _ (by omega), byteAt_bitWrite_other _ _ _ _ _ (by omega),
    byteAt_bitWrite_other _ _ _ _ _ (by omega), byteAt_bitWrite_other _ _ _ _ _ (by omega)]

end

/-- The bytes of an entry with the values of R103, from its slices (30_encoding.md R73). -/
theorem byteAt_setTouchEntry_example (p : InPacket) {t f : BitVec 2} (ht : t.toNat < 3) (hf : f.toNat < 2) :
    let q := setTouchEntry p t f 5 0 1000 2000
    let b := 43 + 9 * t.toNat + 4 * f.toNat
    byteAt q b = 0x05 ∧ byteAt q (b + 1) = 0xE8 ∧ byteAt q (b + 2) = 0x03 ∧ byteAt q (b + 3) = 0x7D := by
  intro q b
  obtain ⟨hid, hcontact, hx, hy⟩ := readIn_setTouchEntry p (id := 5) (contact := 0) (x := 1000) (y := 2000) ht hf
    (by decide) (by decide) (by decide) (by decide)
  obtain ⟨-, hid', hcontact', hx', hy'⟩ := fingerEntrySlices q t f ht hf
  simp only [readIn] at hid hcontact hx hy
  simp only [q, hid, hcontact, hx, hy, BitVec.reduceToNat, Nat.add_zero] at hid' hcontact' hx' hy'
  have hbyte {i : Nat} {v : Byte} (h : (byteAt q i).toNat = v.toNat) : byteAt q i = v := BitVec.eq_of_toNat_eq h
  refine ⟨hbyte ?_, hbyte ?_, hbyte ?_, hbyte ?_⟩
  all_goals
    simp only [q, b, BitVec.reduceToNat]
    omega

/-- A set of a field of format IN, seen from the Input Packet alone. -/
theorem exists_exec_seti {i : Instr} {s : State} {z : InField} {v : Scalar} {t f : BitVec 2}
    (hi : i.form = .seti z t f v) (hs : s.ready) (ht : t.toNat < (inRow z).nT) (hf : f.toNat < (inRow z).nF)
    (hv : v.toNat < 2 ^ (inRow z).width) :
    ∃ u, exec i s = .next u ∧ u.ready ∧ u.inpkt = writeIn s.inpkt z t f v :=
  ⟨_, exec_seti hi hs ht hf hv, hs, rfl⟩

/-- Settles O27: the four sets leave `setTouchEntry`, whose fields and bytes are as stated. -/
theorem touchEntriesRoundTrip : Obligations.TouchEntriesRoundTrip := by
  intro t f s ht hf hs
  obtain ⟨s₁, hexec₁, hs₁, hp₁⟩ := exists_exec_seti (i := .setiTouchId t f 5) rfl hs ht hf (by decide)
  obtain ⟨s₂, hexec₂, hs₂, hp₂⟩ := exists_exec_seti (i := .setiNoContact t f 0) rfl hs₁ ht hf (by decide)
  obtain ⟨s₃, hexec₃, hs₃, hp₃⟩ := exists_exec_seti (i := .setiTouchX t f 1000) rfl hs₂ ht hf (by decide)
  obtain ⟨u, hexec, hu, hp⟩ := exists_exec_seti (i := .setiTouchY t f 2000) rfl hs₃ ht hf (by decide)
  rw [hp₃, hp₂, hp₁, ← setTouchEntry] at hp
  obtain ⟨hid, hcontact, hx, hy⟩ := readIn_setTouchEntry s.inpkt (id := 5) (contact := 0) (x := 1000) (y := 2000)
    ht hf (by decide) (by decide) (by decide) (by decide)
  obtain ⟨hbyte₀, hbyte₁, hbyte₂, hbyte₃⟩ := byteAt_setTouchEntry_example s.inpkt ht hf
  rw [← hp] at hid hcontact hx hy hbyte₀ hbyte₁ hbyte₂ hbyte₃
  exact ⟨s₁, s₂, s₃, u, hexec₁, hexec₂, hexec₃, hexec,
    ⟨hbyte₀, hbyte₁, hbyte₂, hbyte₃, fun i hi => by rw [hp, byteAt_setTouchEntry_other _ hi]⟩,
    exec_geti rfl hu ht hf hid, exec_geti rfl hu ht hf hcontact, exec_geti rfl hu ht hf hx, exec_geti rfl hu ht hf hy⟩

/-! ## Raw operations -/

section
variable {s : State}

theorem exec_rdo (hs : s.ready) : exec .rdo s = .next { s with rsp := okResponse (packetBytes s.outpkt) } :=
  congrArg _ (accept_ready s _ _ hs.1 hs.2)

theorem exec_rdi (hs : s.ready) : exec .rdi s = .next { s with rsp := okResponse (packetBytes s.inpkt) } :=
  congrArg _ (accept_ready s _ _ hs.1 hs.2)

theorem exec_wro (hs : s.ready) (b : OutPacket) :
    exec (.wro b) s = .next { s with outpkt := b, rsp := okResponse [] } :=
  congrArg _ (accept_ready s _ _ hs.1 hs.2)

theorem exec_wri (hs : s.ready) (b : InPacket) :
    exec (.wri b) s = .next { s with inpkt := b, rsp := okResponse [] } :=
  congrArg _ (accept_ready s _ _ hs.1 hs.2)

variable {rest : List (Option Request)}

/-- A request that encodes an instruction is served by that instruction. -/
theorem step_encode (i : Instr) (h : s.host = some (encode i) :: rest) : step s = exec i { s with host := rest } := by
  rw [step_request h, serve_instr (decodeEncodeAgree i)]

theorem step_rdo (hs : s.ready) (h : s.host = some (encode .rdo) :: rest) :
    step s = .next { s with host := rest, rsp := okResponse (packetBytes s.outpkt) } :=
  (step_encode _ h).trans (exec_rdo (ready_with_host hs))

theorem step_rdi (hs : s.ready) (h : s.host = some (encode .rdi) :: rest) :
    step s = .next { s with host := rest, rsp := okResponse (packetBytes s.inpkt) } :=
  (step_encode _ h).trans (exec_rdi (ready_with_host hs))

theorem step_wro {p : OutPacket} (hs : s.ready) (h : s.host = some (encode (.wro p)) :: rest) :
    step s = .next { s with host := rest, outpkt := p, rsp := okResponse [] } :=
  (step_encode _ h).trans (exec_wro (ready_with_host hs) p)

theorem step_wri {p : InPacket} (hs : s.ready) (h : s.host = some (encode (.wri p)) :: rest) :
    step s = .next { s with host := rest, inpkt := p, rsp := okResponse [] } :=
  (step_encode _ h).trans (exec_wri (ready_with_host hs) p)

theorem run_two {t u : State} (hst : step s = .next t) (htu : step t = .next u) : run 2 s = .next u :=
  ((run_next hst).trans (run_next htu)).trans (run_zero u)

end

theorem getElem?_packetBytes {n : Nat} (p : Packet n) {i : Nat} (h : i < n) :
    (packetBytes p)[i]? = some (byteAt p i) := by
  rw [← packetBytes_getD, List.getD_eq_getElem _ _ (by simpa using h), List.getElem?_eq_getElem]

/-- Settles O29: the answer is the list of the packet's bytes. -/
theorem rawViewsReturnAllBytes : Obligations.RawViewsReturnAllBytes := fun s hs =>
  ⟨⟨_, length_packetBytes s.outpkt, fun _ => getElem?_packetBytes _, exec_rdo hs⟩,
    ⟨_, length_packetBytes s.inpkt, fun _ => getElem?_packetBytes _, exec_rdi hs⟩⟩

/-- Settles O30: `Accept()` lets the replacement through. -/
theorem rawReplacesWriteAllBytes : Obligations.RawReplacesWriteAllBytes := fun _ hs => ⟨exec_wro hs, exec_wri hs⟩

/-- Settles O31: a payload is the bytes of the packet it makes, which the view answers. -/
theorem rawRoundTrip : Obligations.RawRoundTrip := by
  refine fun s b rest hs => ⟨fun hlen hhost => ?_, fun hlen hhost => ?_⟩
  · obtain ⟨p, rfl⟩ : ∃ p : OutPacket, packetBytes p = b := ⟨_, packetBytes_packetOfBytes hlen⟩
    exact ⟨_, run_two (step_wro hs hhost) (step_rdo hs rfl), rfl⟩
  · obtain ⟨p, rfl⟩ : ∃ p : InPacket, packetBytes p = b := ⟨_, packetBytes_packetOfBytes hlen⟩
    exact ⟨_, run_two (step_wri hs hhost) (step_rdi hs rfl), rfl⟩

/-- Settles O7: nine of the words are the encodings of their instructions, and no field has FID 0x46. -/
theorem specWordsDecode : Obligations.SpecWordsDecode :=
  ⟨decodeEncodeAgree .getoPwLStickX, decodeEncodeAgree (.setoOvrCross 1), decodeEncodeAgree (.getiTouchX 2 1),
    decodeEncodeAgree (.setiTouchX 2 1 0xABC), decodeEncodeAgree .rdo, decodeEncodeAgree (.setind 255 128 0 10 20),
    decodeEncodeAgree .exec, decodeEncodeAgree .rst, decodeEncodeAgree (.reservedOpD 0x123), rfl⟩

end Sys2Proof.Machine

/-! # The statements of 41_transaction.md

The d-pad decoder; each step of a transaction as one step of the machine; the transitions of (PHASE, IDX); a whole
transaction, by induction on the answers captured so far. -/

namespace Sys2Proof.Machine

/-! ## The d-pad decoder -/

/-- Settles O41, row by row. -/
theorem dpadTable : Obligations.DpadTable := by
  unfold Obligations.DpadTable
  decide

/-- Settles O42: the sixteen rows of the table decide each clause. -/
theorem dpadImage : Obligations.DpadImage :=
  ⟨by decide, rfl, rfl, rfl, by decide, by decide⟩

/-- The byte the decode step leaves in place of the d-pad's (41_transaction.md R116). -/
def dpadByteDecoded (b : Byte) : Byte := b.extractLsb' 4 4 ++ dpadDecode (b.extractLsb' 0 4)

@[simp] theorem byteAt_decodeDpad_self (p : InPacket) : byteAt (decodeDpad p) 13 = dpadByteDecoded (byteAt p 13) :=
  byteAt_setByte_self p _ (by decide)

/-- The low nibble is the decoder's result, the face buttons keep their four bits. -/
theorem getLsbD_dpadByteDecoded (b : Byte) (k : Nat) :
    (dpadByteDecoded b).getLsbD k = if k < 4 then (dpadDecode (b.extractLsb' 0 4)).getLsbD k else b.getLsbD k := by
  rw [dpadByteDecoded, BitVec.getLsbD_append]
  by_cases hk : k < 4
  · simp only [hk, if_true]
  · simp only [hk, if_false, BitVec.getLsbD_extractLsb', show 4 + (k - 4) = k by omega]
    by_cases hk8 : k < 8
    · simp [show k - 4 < 4 by omega]
    · simp [show ¬k - 4 < 4 by omega, BitVec.getLsbD_of_ge b k (by omega)]

theorem extractLsb'_high_dpadByteDecoded (b : Byte) :
    (dpadByteDecoded b).extractLsb' 4 4 = b.extractLsb' 4 4 := by
  refine BitVec.eq_of_getLsbD_eq fun k _ => ?_
  simp only [BitVec.getLsbD_extractLsb', getLsbD_dpadByteDecoded, show ¬4 + k < 4 by omega, if_false]

/-- The four low bits are the memberships of R116 in the old code. -/
theorem dpadByteDecoded_directions (b : Byte) :
    let c := b.toNat % 16
    (dpadByteDecoded b).getLsbD 0 = decide (c = 7 ∨ c = 0 ∨ c = 1) ∧
    (dpadByteDecoded b).getLsbD 1 = decide (c = 1 ∨ c = 2 ∨ c = 3) ∧
    (dpadByteDecoded b).getLsbD 2 = decide (c = 3 ∨ c = 4 ∨ c = 5) ∧
    (dpadByteDecoded b).getLsbD 3 = decide (c = 5 ∨ c = 6 ∨ c = 7) := by
  have hc : (b.extractLsb' 0 4).toNat = b.toNat % 16 := by simp
  obtain ⟨hup, hright, hdown, hleft, -⟩ := dpadTable (b.extractLsb' 0 4)
  rw [hc] at hup hright hdown hleft
  simp only [List.mem_cons, List.not_mem_nil, or_false] at hup hright hdown hleft
  simp only [getLsbD_dpadByteDecoded, Nat.reduceLT, if_true]
  refine ⟨?_, ?_, ?_, ?_⟩ <;> rw [Bool.eq_iff_iff, decide_eq_true_eq]
  exacts [hup, hright, hdown, hleft]

/-! ## The steps of a transaction -/

section
variable {s : State}

/-- EXEC in a block that accepts requests. -/
theorem exec_exec (hs : s.ready) : exec .exec s = .next (selectStep s) :=
  congrArg _ (accept_ready s _ _ hs.1 hs.2)

/-- A host quiet for some steps is quiet in each of them. -/
theorem quiet_drop {j k : Nat} {host : List (Option Request)} (hq : quiet k host) (hj : j < k) :
    quiet 1 (host.drop j) := by
  induction j generalizing k host with
  | zero => exact quiet_mono hq hj
  | succ j ih =>
    obtain ⟨k, rfl⟩ := Nat.exists_eq_add_one_of_ne_zero (Nat.ne_zero_of_lt hj)
    rw [← List.drop_tail]
    exact ih (quiet_tail hq) (Nat.lt_of_succ_lt_succ hj)

/-- A quiet step outside phase XFER is the sequencer's. -/
theorem step_quiet_of_phase (hp : s.phase ≠ .xfer) (hq : quiet 1 s.host) :
    step s = sequencerMove { s with host := s.host.tail } :=
  step_sequencer hq (.inl (by simp [awaitsTransport, hp]))

/-- The exchange step, when the transport has an answer (41_transaction.md R113, R114). -/
theorem step_exchange {r : Byte} {more : List Byte} (hf : s.fault = false) (hp : s.phase = .xfer)
    (hi : s.idx.toNat ≤ 95) (hb : s.board = r :: more) (hq : quiet 1 s.host) :
    step s = .next (exchangeStep r { s with host := s.host.tail, board := more }) := by
  rw [step_sequencer hq (.inl (by simp [awaitsTransport, hb]))]
  simp [sequencerMove, hf, hp, hb, Nat.lt_succ_of_le hi]

/-- The deselect step (41_transaction.md R115). -/
theorem step_deselect (hf : s.fault = false) (hp : s.phase = .desel) (hq : quiet 1 s.host) :
    step s = .next (deselectStep { s with host := s.host.tail }) := by
  rw [step_quiet_of_phase (by simp [hp]) hq]
  simp [sequencerMove, hf, hp]

/-- The decode step (41_transaction.md R116, R117). -/
theorem step_decode (hf : s.fault = false) (hp : s.phase = .decode) (hq : quiet 1 s.host) :
    step s = .next (decodeStep { s with host := s.host.tail }) := by
  rw [step_quiet_of_phase (by simp [hp]) hq]
  simp [sequencerMove, hf, hp]

/-- The advance of (PHASE, IDX) in an exchange step (41_transaction.md R114). -/
theorem exchangeStep_advance (s : State) (r : Byte) (hi : s.idx.toNat ≤ 95) :
    (s.idx.toNat < 95 ∧ (exchangeStep r s).phase = s.phase ∧ (exchangeStep r s).idx.toNat = s.idx.toNat + 1) ∨
    (s.idx.toNat = 95 ∧ (exchangeStep r s).phase = .desel) := by
  obtain ⟨hlt, he⟩ | ⟨hge, he⟩ := exchangeStep_cases s r <;> rw [he]
  · exact .inl ⟨hlt, rfl, by dsimp only; bv_omega⟩
  · exact .inr ⟨by omega, rfl⟩

end

/-- Settles O37: `Accept()` lets the select step through. -/
theorem execSelects : Obligations.ExecSelects := fun _ hs => exec_exec hs

/-- Settles O38, by what an exchange step writes and how it advances. -/
theorem exchangeStepCaptures : Obligations.ExchangeStepCaptures := by
  intro s r more hf hp hi hb hq
  refine ⟨exchangeStep r { s with host := s.host.tail, board := more }, ?_, fun i hi' => ?_, ?_⟩
  · rw [step_exchange hf hp hi hb hq, ← txByte_eq_wireByte]
    obtain ⟨-, he⟩ | ⟨-, he⟩ := exchangeStep_cases { s with host := s.host.tail, board := more } r <;>
      rw [he] <;> rfl
  · rw [exchangeStep_inpkt, byteAt_setByte]
    exact if_congr ((and_iff_left hi').trans eq_comm) rfl rfl
  · obtain ⟨hlt, hphase, hidx⟩ | ⟨heq, hphase⟩ :=
      exchangeStep_advance { s with host := s.host.tail, board := more } r hi
    · exact ⟨fun _ => ⟨hphase.trans hp, hidx⟩, fun h => absurd h hlt.ne⟩
    · exact ⟨fun h => absurd heq h.ne, fun _ => hphase⟩

/-- Settles O39: the sequencer's move in phase DESEL. -/
theorem deselectStepReleases : Obligations.DeselectStepReleases := fun _ hf hp hq => step_deselect hf hp hq

/-- Settles O40: the decode step rewrites byte 13, whose bits are those of `dpadByteDecoded`. -/
theorem decodeStepCompletes : Obligations.DecodeStepCompletes := by
  intro s hf hp hq
  refine ⟨decodeDpad s.inpkt, step_decode hf hp hq, ?_, ?_, fun i hi => byteAt_decodeDpad_other _ hi⟩ <;>
    rw [byteAt_decodeDpad_self]
  · exact dpadByteDecoded_directions _
  · exact extractLsb'_high_dpadByteDecoded _

/-! ## The transitions of (PHASE, IDX) -/

/-- A request that decodes to an instruction of a form is the encoding of the form. -/
theorem request_of_form {r : Request} {i : Instr} {x : Form} (hd : decode r = .ok i) (hx : i.form = x) :
    r = encodeForm x := by
  rw [← encodeDecodeAgree r i hd, encode, hx]

/-- Settles O52, by the effect of the step: only EXEC's select step, RST and the moves of the sequencer write PHASE or
IDX. -/
theorem sequencerTransitions : Obligations.SequencerTransitions := by
  intro s u hinv hstep
  obtain ⟨r, rest, i, hr, hd, hu⟩ | ⟨r, rest, e, -, -, rfl⟩ | ⟨hq, hu⟩ := step_effect hstep
  · cases hu with
    | refused | raised | answered => exact .inl ⟨rfl, rfl⟩
    | selected hx hready =>
      obtain ⟨hf, hb⟩ := hready
      have hidle : s.phase = .idle := by_contra fun hp => by simp [hinv.busy_iff.mpr hp] at hb
      cases request_of_form hd hx
      exact .inr (.inr ⟨hf, .inl ⟨hidle, rfl, rfl, rest, hr⟩⟩)
    | reset hx =>
      cases request_of_form hd hx
      exact .inr (.inl ⟨rfl, rfl, rest, hr⟩)
  · obtain ⟨-, he⟩ | ⟨-, c, he⟩ := rejectRequest_cases e _ { s with host := rest } <;> rw [he] <;>
      exact .inl ⟨rfl, rfl⟩
  · cases hu with
    | stayed => exact .inl ⟨rfl, rfl⟩
    | exchanged r more hf hp hi hb =>
      refine .inr (.inr ⟨hf, .inr ⟨hq, ?_⟩⟩)
      obtain ⟨hlt, hphase, hidx⟩ | ⟨heq, hphase⟩ :=
        exchangeStep_advance { s with host := s.host.tail, board := more } r hi
      · exact .inl ⟨hp, hlt, hphase.trans hp, hidx⟩
      · exact .inr (.inl ⟨hp, heq, hphase⟩)
    | deselected hf hp => exact .inr (.inr ⟨hf, .inr ⟨hq, .inr (.inr (.inl ⟨hp, rfl⟩))⟩⟩)
    | decoded hf hp => exact .inr (.inr ⟨hf, .inr ⟨hq, .inr (.inr (.inr ⟨hp, rfl⟩))⟩⟩)

/-! ## A whole transaction -/

/-- An Input Packet whose first bytes are the answers captured so far (41_transaction.md R113). Irreducible, so that
comparing two states does not unroll its 96 bytes. -/
@[irreducible] def capturedPacket (p : InPacket) (answers : List Byte) : InPacket :=
  Vector.ofFn fun i => answers.getD i.val (byteAt p i.val)

theorem byteAt_capturedPacket (p : InPacket) (answers : List Byte) {i : Nat} (h : i < 96) :
    byteAt (capturedPacket p answers) i = answers.getD i (byteAt p i) := by
  rw [byteAt_eq_getElem _ h]
  unfold capturedPacket
  exact Vector.getElem_ofFn _

theorem capturedPacket_nil (p : InPacket) : capturedPacket p [] = p :=
  packet_ext fun i h => by simp [byteAt_capturedPacket _ _ h]

/-- Each answer stands in the byte of its position. -/
theorem getElem?_answers (p : InPacket) {answers : List Byte} (hlen : answers.length = 96) {i : Nat} (h : i < 96) :
    answers[i]? = some (byteAt (capturedPacket p answers) i) := by
  rw [byteAt_capturedPacket _ _ h, List.getD_eq_getElem _ _ (by omega), List.getElem?_eq_getElem]

/-- One more answer is captured into the next byte. -/
theorem setByte_capturedPacket (p : InPacket) (answers : List Byte) (r : Byte) :
    setByte (capturedPacket p answers) answers.length r = capturedPacket p (answers ++ [r]) := by
  refine packet_ext fun i h => ?_
  simp only [byteAt_setByte, byteAt_capturedPacket _ _ h, h, and_true]
  grind

/-- `s` in the transaction it accepted, once the transport has given `answers`: the position is that of the next
exchange, and after the 96th the deselect step is due (41_transaction.md R112 to R114). -/
def State.exchanging (s : State) (rest : List (Option Request)) (answers more : List Byte) : State :=
  { s with
    host := rest.drop answers.length
    board := more
    inpkt := capturedPacket s.inpkt answers
    phase := if answers.length < 96 then .xfer else .desel
    idx := BitVec.ofNat 7 (min answers.length 95)
    busy := true
    sel := true
    rsp := none
    trace := s.trace ++ [.selAssert] ++ answers.mapIdx fun i r => .xfer (wireByte s.outpkt i) r }

section
variable (s : State) (rest : List (Option Request)) (answers more : List Byte)

@[simp] theorem exchanging_outpkt : (s.exchanging rest answers more).outpkt = s.outpkt := rfl
@[simp] theorem exchanging_inpkt : (s.exchanging rest answers more).inpkt = capturedPacket s.inpkt answers := rfl
@[simp] theorem exchanging_busy : (s.exchanging rest answers more).busy = true := rfl
@[simp] theorem exchanging_fault : (s.exchanging rest answers more).fault = s.fault := rfl
@[simp] theorem exchanging_sel : (s.exchanging rest answers more).sel = true := rfl
@[simp] theorem exchanging_rsp : (s.exchanging rest answers more).rsp = none := rfl
@[simp] theorem exchanging_host : (s.exchanging rest answers more).host = rest.drop answers.length := rfl
@[simp] theorem exchanging_board : (s.exchanging rest answers more).board = more := rfl

/-- The deselect step is due after the last exchange (41_transaction.md R114). -/
theorem exchanging_phase :
    (s.exchanging rest answers more).phase = if answers.length < 96 then .xfer else .desel := rfl

/-- IDX is the position of the next exchange (41_transaction.md R114). -/
theorem exchanging_idx (h : answers.length < 96) : (s.exchanging rest answers more).idx.toNat = answers.length := by
  simp only [State.exchanging, BitVec.toNat_ofNat]
  omega

end

section
variable {s : State} {rest : List (Option Request)}

/-- The step that serves EXEC leaves a transaction with no answer yet. -/
theorem step_exec (hs : s.ready) (h : s.presents ⟨0xA000, []⟩ rest) :
    step s = .next (s.exchanging rest [] s.board) := by
  rw [step_encode .exec h, exec_exec (ready_with_host hs)]
  simp [State.exchanging, capturedPacket_nil, selectStep, selAssert]

/-- An exchange carries the transaction on by one answer. -/
theorem exchangeStep_exchanging (s : State) (rest : List (Option Request)) {answers : List Byte} (r : Byte)
    (more : List Byte) (h : answers.length < 96) :
    let t := s.exchanging rest answers (r :: more)
    exchangeStep r { t with host := t.host.tail, board := more } = s.exchanging rest (answers ++ [r]) more := by
  intro t
  have hidx : t.idx.toNat = answers.length := exchanging_idx s rest answers _ h
  obtain ⟨hlt, he⟩ | ⟨hge, he⟩ := exchangeStep_cases { t with host := t.host.tail, board := more } r
  · rw [he]
    simp only [hidx, txByte_eq_wireByte] at hlt ⊢
    simp [t, State.exchanging, setByte_capturedPacket, h, hlt, BitVec.ofNat_add, hlt.le, Nat.succ_le_of_lt hlt]
  · rw [he]
    simp only [hidx, txByte_eq_wireByte] at hge ⊢
    simp [t, State.exchanging, setByte_capturedPacket, hge, Nat.le_succ_of_le hge]

/-- Each answer of the transport carries the transaction on by one exchange. -/
theorem step_exchanging {answers : List Byte} {r : Byte} {more : List Byte} (hf : s.fault = false)
    (hq : quiet 98 rest) (h : answers.length < 96) :
    step (s.exchanging rest answers (r :: more)) = .next (s.exchanging rest (answers ++ [r]) more) := by
  rw [step_exchange (r := r) (more := more), exchangeStep_exchanging s rest r more h]
  · rw [exchanging_fault, hf]
  · rw [exchanging_phase, if_pos h]
  · rw [exchanging_idx _ _ _ _ h]; omega
  · rw [exchanging_board]
  · rw [exchanging_host]; exact quiet_drop hq (by omega)

variable {answers more : List Byte} (hs : s.ready) (hr : s.presents ⟨0xA000, []⟩ rest) (hq : quiet 98 rest)
include hs hr hq

/-- The run up to the deselect step: the select step and one exchange for each answer (41_transaction.md R111). -/
theorem run_exchanging (hlen : answers.length ≤ 96) (hb : s.board = answers ++ more) :
    run (1 + answers.length) s = .next (s.exchanging rest answers more) := by
  induction answers using List.reverseRecOn generalizing more with
  | nil =>
    obtain rfl : s.board = more := hb
    exact run_next (step_exec hs hr)
  | append_singleton answers r ih =>
    rw [List.length_append, List.length_singleton] at hlen ⊢
    rw [List.append_assoc, List.singleton_append] at hb
    rw [← Nat.add_assoc, run_add _ 1 (ih (by omega) hb)]
    exact run_next (step_exchanging hs.1 hq (by omega))

/-- The run through the deselect step (41_transaction.md R115). -/
theorem run_deselect (hlen : answers.length = 96) (hb : s.board = answers ++ more) :
    run 98 s = .next (deselectStep { s.exchanging rest answers more with host := rest.drop 97 }) := by
  have hrun := run_exchanging hs hr hq hlen.le hb
  have hstep := step_deselect (s := s.exchanging rest answers more) hs.1
    (by rw [exchanging_phase, hlen, if_neg (by decide)])
    (by rw [exchanging_host]; exact quiet_drop hq (by omega))
  simp only [exchanging_host, hlen, List.tail_drop] at hrun hstep
  rw [run_add 97 1 hrun, run_next hstep, run_zero]

/-- The whole run, which the decode step ends (41_transaction.md R116, R117). -/
theorem run_decode (hlen : answers.length = 96) (hb : s.board = answers ++ more) :
    run 99 s = .next (decodeStep (deselectStep { s.exchanging rest answers more with host := rest.drop 98 })) := by
  have hrun := run_deselect hs hr hq hlen hb
  have hquiet : quiet 1 (rest.drop 97) := quiet_drop hq (by omega)
  have hstep := step_decode (s := deselectStep { s.exchanging rest answers more with host := rest.drop 97 }) hs.1 rfl
    hquiet
  simp only [deselectStep_host, List.tail_drop] at hstep
  rw [run_add 98 1 hrun, run_next hstep, run_zero]
  rfl

end

/-- Settles O44: the first 97 states are those of `run_exchanging`, and the deselect step follows. -/
theorem transactionBusyThroughout : Obligations.TransactionBusyThroughout := by
  intro s rest k hs hr hq hlen hk1 hk98
  have hb (n : Nat) : s.board = s.board.take n ++ s.board.drop n := (List.take_append_drop n _).symm
  have htake {n : Nat} (hn : n ≤ 96) : (s.board.take n).length = n := by rw [List.length_take]; omega
  obtain hk97 | rfl : k ≤ 97 ∨ k = 98 := by omega
  · obtain ⟨n, rfl⟩ := Nat.exists_eq_add_of_le hk1
    have hrun := run_exchanging hs hr hq ((htake (by omega)).trans_le (by omega)) (hb n)
    rw [htake (by omega)] at hrun
    exact ⟨_, hrun, by simp [hs.1, hk97]⟩
  · exact ⟨_, run_deselect hs hr hq (htake le_rfl) (hb 96), by simp [hs.1]⟩

/-- Settles O43: the last state is that of `run_decode`, and its Input Packet holds the answers, byte 13 decoded. -/
theorem transactionCompletes : Obligations.TransactionCompletes := by
  intro s rest answers more hs hr hq hlen hb
  refine ⟨decodeStep (deselectStep { s.exchanging rest answers more with host := rest.drop 98 }),
    (run_decode hs hr hq hlen hb).trans ?_, fun i hi hi13 => ?_, ?_⟩
  · simp [decodeStep, deselectStep, respond, selDeassert, State.exchanging, okResponse, transactionTrace]
  · rw [getElem?_answers s.inpkt hlen hi, decodeStep_inpkt, byteAt_decodeDpad_other _ hi13]
    rfl
  · rw [getElem?_answers s.inpkt hlen (by decide), decodeStep_inpkt, byteAt_decodeDpad_self]
    rfl

end Sys2Proof.Machine

/-! # The statements of 42_indicator.md

A field that is one whole byte, read and set; the bytes that SETIND writes and those it leaves alone; SETIND in a ready
block. -/

namespace Sys2Proof.Machine

/-! ## Fields that are one byte -/

section
variable {n : Nat}

/-- A `BitRead` of a whole byte is that byte (20_memory.md R34). -/
theorem bitRead_byte (p : Packet n) (k : Nat) : bitRead p (8 * k) 8 = (byteAt p k).setWidth 16 := by
  refine BitVec.eq_of_getLsbD_eq fun j hj => ?_
  rw [getLsbD_bitRead _ _ _ _ (by decide), BitVec.getLsbD_setWidth, decide_eq_true hj, Bool.true_and, bitAt]
  by_cases h : j < 8
  · simp [h, show (8 * k + j) / 8 = k by omega, Nat.mod_eq_of_lt h]
  · simp [h, BitVec.getLsbD_of_ge _ j (not_lt.mp h)]

/-- A `BitWrite` of a whole byte writes that byte (20_memory.md R35). -/
theorem bitWrite_byte (p : Packet n) (k : Nat) (b : Byte) :
    bitWrite p (8 * k) 8 (b.setWidth 16) = setByte p k b := by
  refine packet_ext_bits fun a ha => ?_
  rw [bitAt_bitWrite, bitAt, bitAt, byteAt_setByte]
  by_cases h : k = a / 8
  · subst h
    rw [if_pos (by omega), if_pos (by omega), BitVec.getLsbD_setWidth, show a - 8 * (a / 8) = a % 8 by omega,
      decide_eq_true (by omega), Bool.true_and]
  · rw [if_neg (by omega), if_neg (by omega)]

end

section
variable {i : Instr} {s : State} {x : OutField} {k : Nat} {b : Byte}

theorem ready_with_outpkt {p : OutPacket} {r : Option Response} (hs : s.ready) :
    State.ready { s with outpkt := p, rsp := r } := ⟨hs.1, hs.2⟩

/-- The field is the whole byte `k` of the Output Packet. -/
def IsByteField (x : OutField) (k : Nat) : Prop := (outRow x).a0 = 8 * k ∧ (outRow x).width = 8

theorem exec_geto_byte (hi : i.form = .geto x) (hs : s.ready) (hx : IsByteField x k) (hb : byteAt s.outpkt k = b) :
    exec i s = .next { s with rsp := okResponse (scalarBytes (b.setWidth 16)) } := by
  obtain ⟨ha, hw⟩ := hx
  exact exec_geto hi hs (by rw [ha, hw, bitRead_byte, hb])

theorem exec_seto_byte (hi : i.form = .seto x (b.setWidth 16)) (hs : s.ready) (hx : IsByteField x k) :
    exec i s = .next { s with outpkt := setByte s.outpkt k b, rsp := okResponse [] } := by
  obtain ⟨ha, hw⟩ := hx
  have hv : (b.setWidth 16).toNat < 2 ^ (outRow x).width := by
    rw [hw, BitVec.toNat_setWidth]
    exact (Nat.mod_le _ _).trans_lt b.isLt
  rw [exec_seto hi hs hv, ha, hw, bitWrite_byte]

end

/-! ## The LED bytes (42_indicator.md R130, R131) -/

/-- The fields that SETIND writes are the bytes 5..9 (30_encoding.md R56). -/
theorem ledFields_areBytes : IsByteField .ledRed 5 ∧ IsByteField .ledGreen 6 ∧ IsByteField .ledBlue 7 ∧
    IsByteField .blinkOn 8 ∧ IsByteField .blinkOff 9 :=
  ⟨⟨rfl, rfl⟩, ⟨rfl, rfl⟩, ⟨rfl, rfl⟩, ⟨rfl, rfl⟩, ⟨rfl, rfl⟩⟩

/-- Every other field of format OUT lies outside bytes 5..9 (30_encoding.md R55 to R58). -/
theorem outRow_outside_ledBytes : ∀ x : OutField, x ≠ .ledRed → x ≠ .ledGreen → x ≠ .ledBlue → x ≠ .blinkOn →
    x ≠ .blinkOff → (outRow x).a0 + (outRow x).width ≤ 8 * 5 ∨ 8 * 10 ≤ (outRow x).a0 :=
  forall_outField (by decide)

theorem byteAt_setLedBytes (p : OutPacket) (red green blue blinkOn blinkOff : Byte) :
    let q := setLedBytes red green blue blinkOn blinkOff p
    byteAt q 5 = red ∧ byteAt q 6 = green ∧ byteAt q 7 = blue ∧ byteAt q 8 = blinkOn ∧ byteAt q 9 = blinkOff := by
  simp [setLedBytes, byteAt_setByte]

section
variable {p : OutPacket} {red green blue blinkOn blinkOff : Byte}

theorem byteAt_setLedBytes_other {i : Nat} (h : i < 5 ∨ 9 < i) :
    byteAt (setLedBytes red green blue blinkOn blinkOff p) i = byteAt p i := by
  unfold setLedBytes
  rw [byteAt_setByte_other _ _ (by omega), byteAt_setByte_other _ _ (by omega), byteAt_setByte_other _ _ (by omega),
    byteAt_setByte_other _ _ (by omega), byteAt_setByte_other _ _ (by omega)]

/-- A `BitRead` that lies outside bytes 5..9 does not see the write. -/
theorem bitRead_setLedBytes_other {a w : Nat} (h : a + w ≤ 8 * 5 ∨ 8 * 10 ≤ a) :
    bitRead (setLedBytes red green blue blinkOn blinkOff p) a w = bitRead p a w := by
  refine bitRead_congr fun k hk => ?_
  rw [bitAt, bitAt, byteAt_setLedBytes_other (by omega)]

end

section
variable (red green blue blinkOn blinkOff : Byte) {s : State}

theorem exec_setind (hs : s.ready) :
    exec (.setind red green blue blinkOn blinkOff) s = .next { s with
      outpkt := setLedBytes red green blue blinkOn blinkOff s.outpkt, rsp := okResponse [] } :=
  calc exec (.setind red green blue blinkOn blinkOff) s
    _ = execSetind red green blue blinkOn blinkOff s := exec_eq_execForm _ s
    _ = _ := congrArg Host.Outcome.next (accept_ready s _ _ hs.1 hs.2)

/-- SETIND, seen from the Output Packet alone. -/
theorem exists_exec_setind (hs : s.ready) :
    ∃ u, exec (.setind red green blue blinkOn blinkOff) s = .next u ∧ u.ready ∧
      u.outpkt = setLedBytes red green blue blinkOn blinkOff s.outpkt :=
  ⟨_, exec_setind red green blue blinkOn blinkOff hs, ready_with_outpkt hs, rfl⟩

end

/-- The wire carries byte `i` of the Output Packet at position `i` (41_transaction.md R121). -/
theorem txByte_of_lt (s : State) {i : Nat} (h : i < 39) : txByte s i = byteAt s.outpkt i := if_pos h

/-- Settles O34: `Accept()` lets the write of the LED bytes through. -/
theorem setindWritesLedBytes : Obligations.SetindWritesLedBytes := by
  intro red green blue blinkOn blinkOff s hs
  obtain ⟨hred, hgreen, hblue, hon, hoff⟩ := byteAt_setLedBytes s.outpkt red green blue blinkOn blinkOff
  exact ⟨_, exec_setind red green blue blinkOn blinkOff hs, hred, hgreen, hblue, hon, hoff,
    fun _ => byteAt_setLedBytes_other⟩

/-- Settles O35: the five fields are the bytes written, the others lie outside them, and the wire carries the bytes. -/
theorem setindThenGetFields : Obligations.SetindThenGetFields := by
  intro red green blue blinkOn blinkOff s hs
  obtain ⟨u, hexec, hu, hp⟩ := exists_exec_setind red green blue blinkOn blinkOff hs
  obtain ⟨hred, hgreen, hblue, hon, hoff⟩ := byteAt_setLedBytes s.outpkt red green blue blinkOn blinkOff
  rw [← hp] at hred hgreen hblue hon hoff
  obtain ⟨hxred, hxgreen, hxblue, hxon, hxoff⟩ := ledFields_areBytes
  have hwire {k : Nat} {b : Byte} (hk : k < 39) (hb : byteAt u.outpkt k = b) : txByte u k = b :=
    (txByte_of_lt u hk).trans hb
  refine ⟨u, hexec, exec_geto_byte rfl hu hxred hred, exec_geto_byte rfl hu hxgreen hgreen,
    exec_geto_byte rfl hu hxblue hblue, exec_geto_byte rfl hu hxon hon, exec_geto_byte rfl hu hxoff hoff,
    fun x hne₁ hne₂ hne₃ hne₄ hne₅ => ?_,
    hwire (by decide) hred, hwire (by decide) hgreen, hwire (by decide) hblue, hwire (by decide) hon,
    hwire (by decide) hoff⟩
  rw [hp, bitRead_setLedBytes_other (outRow_outside_ledBytes x hne₁ hne₂ hne₃ hne₄ hne₅)]

/-- Settles O36: each SETO writes its byte and leaves the block ready, and `setLedBytes` is the five writes in this
order. -/
theorem setindIsFiveSetos : Obligations.SetindIsFiveSetos := by
  intro red green blue blinkOn blinkOff s hs
  obtain ⟨hred, hgreen, hblue, hon, hoff⟩ := ledFields_areBytes
  refine ⟨_, _, _, _, _, exec_seto_byte rfl hs hred, exec_seto_byte rfl ?_ hgreen, exec_seto_byte rfl ?_ hblue,
    exec_seto_byte rfl ?_ hon, exec_seto_byte rfl ?_ hoff, exec_setind red green blue blinkOn blinkOff hs⟩
  all_goals exact ⟨hs.1, hs.2⟩

end Sys2Proof.Machine

/-! # The statements of 60_exceptions.md

The waiting sequencer and the stops of a step; how FAULT is entered and left; then what becomes of a request: the checks
on its bits are the checks on the form it decodes to, and every operation but RST puts its own behind `Accept()`. -/

namespace Sys2Proof.Machine

/-! ## Stops (60_exceptions.md R153) -/

/-- Settles O45: a step with an entry of the host's is the waiting sequencer's, and without one the model stops. -/
theorem unansweredExchangeWaits : Obligations.UnansweredExchangeWaits := by
  intro s hf hp hi hb
  refine ⟨fun rest hh => ?_, fun hh => ?_⟩
  · rw [step_quiet hh]
    simp [sequencerMove, hf, hp, hb, Nat.lt_succ_of_le hi]
  · rw [step_end hh, if_pos ((awaitsTransport_iff s).mpr ⟨hp, hf, hb⟩)]

/-- A request that is served has a next state, whatever it is. -/
theorem serve_next (r : Request) (s : State) : ∃ u, serve r s = .next u := by
  cases hd : decode r with
  | ok i =>
    rw [serve_instr hd, exec_eq_execForm]
    exact execForm_next i.form s
  | error e => exact ⟨_, serve_error hd s⟩

/-- The sequencer has a next move from every position of the table (41_transaction.md R125). -/
theorem sequencerMove_next {s : State} (h : s.phase = .xfer → s.idx.toNat ≤ 95) : ∃ u, sequencerMove s = .next u := by
  obtain ⟨-, he⟩ | ⟨-, -, he⟩ | ⟨-, hp, hi, -⟩ | ⟨-, -, -, -, he⟩ | ⟨r, rest, -, -, -, -, he⟩ | ⟨-, -, he⟩ |
    ⟨-, -, he⟩ := sequencerMove_cases s
  case inr.inr.inl => exact absurd (h hp) (by omega)
  all_goals exact ⟨_, he⟩

/-- Settles O54: a request is served, and the sequencer moves unless it waits for an answer that never comes. -/
theorem stepStopsOnlyOnSilence : Obligations.StepStopsOnlyOnSilence := by
  intro s hinv
  obtain ⟨r, rest, hr⟩ | hq := presents_or_quiet s
  · rw [step_request hr]
    exact .inl (serve_next r _)
  · by_cases hwait : awaitsTransport s = true ∧ s.host = []
    · obtain ⟨ha, hh⟩ := hwait
      obtain ⟨hp, hf, hb⟩ := (awaitsTransport_iff s).mp ha
      exact .inr ⟨by rw [step_end hh, if_pos ha], hp, hf, hb, hh⟩
    · rw [step_sequencer hq (by simpa [imp_iff_not_or] using hwait)]
      exact .inl (sequencerMove_next hinv.idx_le)

/-! ## Entering and leaving the faulted state (60_exceptions.md R146, R148) -/

section
variable {s u : State} {x : Form}

/-- An instruction that records a fault does nothing else. -/
theorem Served.eq_faulted (h : Served x s u) (hs : s.fault = false) (hu : u.fault = true) :
    ∃ c k, u = s.faulted c k := by
  cases h with
  | raised c k => exact ⟨c, k, rfl⟩
  | refused k hf => simp [hf] at hs
  | answered | selected => simp [hs] at hu
  | reset => simp at hu

/-- No instruction but RST leaves the faulted state. -/
theorem Served.eq_rst (h : Served x s u) (hs : s.fault = true) (hu : u.fault = false) : x = .rst := by
  cases h with
  | reset hx => exact hx
  | refused | answered | selected => simp [hs] at hu
  | raised => simp at hu

@[simp] theorem rejectRequest_fault (e : DecodeError) (n : Nat) (s : State) : (rejectRequest e n s).fault = true := by
  obtain ⟨hf, he⟩ | ⟨-, c, he⟩ := rejectRequest_cases e n s <;> rw [he]
  · exact hf
  · rfl

/-- The sequencer neither records nor clears a fault. -/
theorem Moved.fault_eq (h : Moved s u) : u.fault = s.fault := by
  cases h <;> simp

end

/-- Settles O48, by the effect of the step: fault entry is `raise`, which serves a request. -/
theorem faultEntryChangesNothingElse : Obligations.FaultEntryChangesNothingElse := by
  intro s u hstep hs hu
  obtain ⟨r, rest, i, hr, -, h⟩ | ⟨r, rest, e, hr, -, rfl⟩ | ⟨-, h⟩ := step_effect hstep
  · obtain ⟨c, k, he⟩ := h.eq_faulted hs hu
    exact ⟨r, rest, c, k, hr, he⟩
  · obtain ⟨hf, -⟩ | ⟨-, c, he⟩ := rejectRequest_cases e (responseLength (opOf r.word)) { s with host := rest }
    · simp [hs] at hf
    · exact ⟨r, rest, c, _, hr, he⟩
  · rw [h.fault_eq, hs] at hu
    cases hu

/-- Settles O49, by the effect of the step: a rejection and the sequencer keep FAULT, and a request that decodes to RST is
RST's word. -/
theorem onlyRstClearsFault : Obligations.OnlyRstClearsFault := by
  intro s u hstep hs hu
  obtain ⟨r, rest, i, hr, hd, h⟩ | ⟨r, rest, e, -, -, rfl⟩ | ⟨-, h⟩ := step_effect hstep
  · cases request_of_form hd (h.eq_rst hs hu)
    exact ⟨rest, hr⟩
  · simp at hu
  · rw [h.fault_eq, hs] at hu
    cases hu

/-! ## The checks on the bits of a request (60_exceptions.md R144) -/

section
variable {r : Request}

/-- Check (3): a reserved code, a non-zero reserved bit or a payload of the wrong length. -/
theorem requestFault_illegal (h : (opOf r.word).toNat = 0 ∨ 12 ≤ (opOf r.word).toNat ∨
    (5 ≤ (opOf r.word).toNat ∧ lowOf r.word ≠ 0#12) ∨ r.payload.length ≠ payloadLength (opOf r.word)) :
    requestFault r = some .illegalRequest := by
  unfold requestFault
  grind

/-- An operation without a field passes every check once it has passed check (3). -/
theorem requestFault_plain (hop : 5 ≤ (opOf r.word).toNat ∧ (opOf r.word).toNat ≤ 0xB) (hlow : lowOf r.word = 0#12)
    (hlen : r.payload.length = payloadLength (opOf r.word)) : requestFault r = none := by
  unfold requestFault
  grind

/-- Checks (4) to (6) on a field of format OUT, none of which is indexed. -/
theorem requestFault_out (hop : (opOf r.word).toNat = 1 ∨ (opOf r.word).toNat = 2)
    (hlen : r.payload.length = payloadLength (opOf r.word)) :
    requestFault r =
      if 0x45 < (fidOf r.word).toNat then some .unknownField
      else if ¬(subRecordOf r.word = 0#2 ∧ fingerOf r.word = 0#2) then some .indexRange
      else if (opOf r.word).toNat = 2 ∧ 2 ^ outWidth (fidOf r.word).toNat ≤ (scalarOfBytes r.payload).toNat
        then some .valueRange
      else none := by
  have hindex : (1 ≤ (subRecordOf r.word).toNat ∨ 1 ≤ (fingerOf r.word).toNat) ↔
      ¬(subRecordOf r.word = 0#2 ∧ fingerOf r.word = 0#2) := by bv_omega
  rw [← if_congr hindex rfl rfl]
  obtain hop | hop := hop <;> simp [requestFault, hop, hlen]

/-- Checks (4) to (6) on a field of format IN. -/
theorem requestFault_in (hop : (opOf r.word).toNat = 3 ∨ (opOf r.word).toNat = 4)
    (hlen : r.payload.length = payloadLength (opOf r.word)) :
    requestFault r =
      if 0x45 < (fidOf r.word).toNat then some .unknownField
      else if (inExtents (fidOf r.word).toNat).1 ≤ (subRecordOf r.word).toNat ∨
          (inExtents (fidOf r.word).toNat).2 ≤ (fingerOf r.word).toNat then some .indexRange
      else if (opOf r.word).toNat = 4 ∧ 2 ^ inWidth (fidOf r.word).toNat ≤ (scalarOfBytes r.payload).toNat
        then some .valueRange
      else none := by
  obtain hop | hop := hop <;> simp [requestFault, hop, hlen]

/-- The decoder makes check (3) on the length of the payload before any other. -/
theorem decodeForm_badLength (h : r.payload.length ≠ payloadLength (opOf r.word)) :
    decodeForm r = .error .illegalRequest := if_pos h

/-- What the decoder rejects fails the check of that name, and no check before it. -/
theorem requestFault_of_error {e : DecodeError} (h : decodeForm r = .error e) :
    requestFault r = some (decodeCause e) := by
  by_cases hlen : r.payload.length = payloadLength (opOf r.word)
  case neg =>
    cases (decodeForm_badLength hlen).symm.trans h
    exact requestFault_illegal (.inr (.inr (.inr hlen)))
  cases decoded r with
  | badLength hlen' => exact absurd hlen hlen'
  | reserved _ _ hd => cases hd.symm.trans h
  | plain x hop hd =>
    rw [hd, plainForm] at h
    split_ifs at h with hlow
    cases h
    exact requestFault_illegal (.inr (.inr (.inl ⟨hop.1, hlow⟩)))
  | out mk hop hd =>
    rw [hd] at h
    rw [requestFault_out hop hlen]
    cases hx : outLookup (fidOf r.word) with
    | none =>
      cases (outForm_of_none mk hx).symm.trans h
      exact if_pos (by simpa [hx] using outLookup_isSome_iff (fidOf r.word))
    | some x =>
      rw [outForm_of_some mk hx] at h
      split_ifs at h with htf
      cases h
      rw [if_neg (not_lt.mpr ((outLookup_isSome_iff _).mp (by simp [hx]))), if_pos htf]
      rfl
  | inp mk hop hd =>
    rw [hd] at h
    rw [requestFault_in hop hlen]
    cases hx : inLookup (fidOf r.word) with
    | none =>
      cases (inForm_of_none mk hx).symm.trans h
      exact if_pos (by simpa [hx] using inLookup_isSome_iff (fidOf r.word))
    | some x => cases (inForm_of_some mk hx).symm.trans h

end

/-- The widths and extents that the checks read off a FID are those of the field table. -/
theorem outWidth_fid : ∀ x : OutField, outWidth (outRow x).fid.toNat = (outRow x).width :=
  forall_outField (by decide)

theorem inWidth_fid : ∀ x : InField, inWidth (inRow x).fid.toNat = (inRow x).width :=
  forall_inField (by decide)

theorem inExtents_fid : ∀ x : InField, inExtents (inRow x).fid.toNat = ((inRow x).nT, (inRow x).nF) :=
  forall_inField (by decide)

theorem outRow_fid_le (x : OutField) : (outRow x).fid.toNat ≤ 0x45 :=
  (outLookup_isSome_iff _).mp (by simp [outLookup_fid])

theorem inRow_fid_le (x : InField) : (inRow x).fid.toNat ≤ 0x45 :=
  (inLookup_isSome_iff _).mp (by simp [inLookup_fid])

/-! ## The checks on a decoded form -/

/-- Check (6) on a set. -/
def valueFault (r : FieldRow) (v : Scalar) : Option FaultCause :=
  if valueFits r v then none else some .valueRange

/-- Check (5), and then what the checks after it say. -/
def indexFault (r : FieldRow) (t f : BitVec 2) (later : Option FaultCause) : Option FaultCause :=
  if indexOk r t f then later else some .indexRange

/-- The cause of the first check that a decoded request fails. -/
def formFault : Form → Option FaultCause
  | .seto x v => valueFault (outRow x) v
  | .geti x t f => indexFault (inRow x) t f none
  | .seti x t f v => indexFault (inRow x) t f (valueFault (inRow x) v)
  | .reserved _ _ => some .illegalRequest
  | .geto _ | .rdo | .wro _ | .rdi | .wri _ | .setind _ _ _ _ _ | .exec | .rst => none

theorem valueFault_eq (r : FieldRow) (v : Scalar) :
    valueFault r v = if 2 ^ r.width ≤ v.toNat then some .valueRange else none := by
  rw [valueFault, ← ite_not]
  exact if_congr (by rw [valueFits_iff, not_lt]) rfl rfl

theorem indexFault_eq (r : FieldRow) (t f : BitVec 2) (later : Option FaultCause) :
    indexFault r t f later = if r.nT ≤ t.toNat ∨ r.nF ≤ f.toNat then some .indexRange else later := by
  rw [indexFault, ← ite_not]
  exact if_congr (by rw [indexOk_iff]; omega) rfl rfl

/-- The payload of an encoded form has the length of its operation (30_encoding.md R82). -/
theorem length_payload_encodeForm (x : Form) :
    (encodeForm x).payload.length = payloadLength (opOf (encodeForm x).word) :=
  by_contra fun h => nomatch (decodeForm_badLength h).symm.trans (decodeForm_encodeForm x)

/-- The checks on the bits of an encoded form are those on its operands. -/
theorem requestFault_encodeForm (x : Form) : requestFault (encodeForm x) = formFault x := by
  cases x with
  | geto x =>
    rw [requestFault_out (by simp [encodeForm]) (length_payload_encodeForm _)]
    simp [encodeForm, formFault, outRow_fid_le]
  | seto x v =>
    rw [requestFault_out (by simp [encodeForm]) (length_payload_encodeForm _)]
    simp [encodeForm, formFault, outRow_fid_le, outWidth_fid, valueFault_eq]
  | geti x t f =>
    rw [requestFault_in (by simp [encodeForm]) (length_payload_encodeForm _)]
    simp [encodeForm, formFault, inRow_fid_le, inExtents_fid, indexFault_eq]
  | seti x t f v =>
    rw [requestFault_in (by simp [encodeForm]) (length_payload_encodeForm _)]
    simp [encodeForm, formFault, inRow_fid_le, inExtents_fid, inWidth_fid, indexFault_eq, valueFault_eq]
  | rdo | wro | rdi | wri | setind | exec | rst =>
    exact requestFault_plain (by simp [encodeForm, opOf]) (by simp [encodeForm, lowOf]) (length_payload_encodeForm _)
  | reserved o low =>
    refine requestFault_illegal ?_
    cases o <;> simp [encodeForm, reservedCode]

/-! ## What a request does behind `Accept()` (60_exceptions.md R143, R144) -/

/-- What becomes of a request that `Accept()` lets through: the fault of the first check it fails, with an error response
of `n` bytes, or no fault and no error response. -/
def Verdict (n : Nat) (s u : State) : Option FaultCause → Prop
  | some c => u = s.faulted c n
  | none => u.fault = false ∧ ∀ x, u.rsp = some x → x.err = false

section
variable {s u : State} {n : Nat}

theorem Verdict.respond (hu : u.fault = false) (d : List Byte) : Verdict n s (respond d u) none :=
  ⟨hu, by rintro _ ⟨⟩; rfl⟩

theorem Verdict.selectStep (hs : s.fault = false) : Verdict n s (selectStep s) none := ⟨hs, nofun⟩

theorem Verdict.setBody (r : FieldRow) (v : Scalar) {write : State → State} (hu : (write s).fault = false) :
    Verdict 0 s (setBody r v write s) (valueFault r v) := by
  obtain ⟨hv, he⟩ | ⟨hv, he⟩ := setBody_cases s r v write <;> rw [he, valueFault, hv]
  · exact .respond hu []
  · rfl

theorem Verdict.indexed (r : FieldRow) (t f : BitVec 2) {body : State → State} {later : Option FaultCause}
    (h : Verdict n s (body s) later) : Verdict n s (indexed n r t f body s) (indexFault r t f later) := by
  obtain ⟨ht, he⟩ | ⟨ht, he⟩ := indexed_cases s n r t f body <;> rw [he, indexFault, ht]
  · exact h
  · rfl

/-- The answer `u` is that of an operation behind `Accept()` whose error responses have `n` bytes and whose own checks
say `c`. -/
def Guarded (n : Nat) (s u : State) (c : Option FaultCause) : Prop :=
  ∃ body, u = accept n body s ∧ (s.ready → Verdict n s (body s) c)

theorem Guarded.of_accept {c : Option FaultCause} {body : State → State} (h : s.ready → Verdict n s (body s) c) :
    Guarded n s (accept n body s) c := ⟨body, rfl, h⟩

/-- The width in bytes of a form's response (30_encoding.md R83). -/
def formWidth : Form → Nat
  | .geto _ | .geti _ _ _ => 2
  | .rdo => Config.outLen
  | .rdi => Config.inLen
  | .seto _ _ | .seti _ _ _ _ | .wro _ | .wri _ | .setind _ _ _ _ _ | .exec | .rst | .reserved _ _ => 0

theorem responseLength_encodeForm (x : Form) : responseLength (opOf (encodeForm x).word) = formWidth x := by
  cases x with
  | reserved o low => cases o <;> simp [encodeForm, formWidth, responseLength, reservedCode]
  | geto | seto | geti | seti => simp [encodeForm, formWidth, responseLength]
  | _ => simp [encodeForm, formWidth, responseLength, opOf]

/-- Every operation but RST is behind `Accept()`, with its checks in the order of 60_exceptions.md R144. -/
theorem execForm_guarded {x : Form} (hx : x ≠ .rst) (h : execForm x s = .next u) :
    Guarded (formWidth x) s u (formFault x) := by
  cases x <;> cases h
  case geto | rdo | rdi => exact .of_accept fun hs => .respond hs.1 _
  case wro | wri | setind =>
    refine .of_accept fun hs => .respond ?_ _
    exact hs.1
  case seto => exact .of_accept fun hs => .setBody _ _ hs.1
  case geti => exact .of_accept fun hs => .indexed _ _ _ (.respond hs.1 _)
  case seti => exact .of_accept fun hs => .indexed _ _ _ (.setBody _ _ hs.1)
  case exec => exact .of_accept fun hs => .selectStep hs.1
  case reserved => exact .of_accept fun _ => rfl
  case rst => exact absurd rfl hx

/-- Every request but RST is behind `Accept()`: one that decodes by the operation's checks, one that does not by the
decoder's. -/
theorem serve_guarded {r : Request} (hr : r ≠ rstRequest) (s : State) :
    ∃ u, serve r s = .next u ∧ Guarded (responseLength (opOf r.word)) s u (requestFault r) := by
  cases hd : decodeForm r with
  | ok x =>
    obtain rfl : encodeForm x = r := encodeForm_of_decodeForm hd
    obtain ⟨u, hu⟩ := execForm_next x s
    have hx : x ≠ .rst := fun hx => hr (by rw [hx]; rfl)
    refine ⟨u, ?_, ?_⟩
    · rw [serve_instr (decode_of_decodeForm_ok hd), exec_eq_execForm, form_ofForm, hu]
    · rw [responseLength_encodeForm, requestFault_encodeForm]
      exact execForm_guarded hx hu
  | error e =>
    rw [requestFault_of_error hd]
    exact ⟨_, serve_error (decode_of_decodeForm_error hd) s, .of_accept fun _ => rfl⟩

end

/-- Settles O8: `Accept()` makes checks (1) and (2), and the verdict on a ready block is that of the others. -/
theorem faultPriority : Obligations.FaultPriority := by
  intro s r rest hr hne
  obtain ⟨u, hu, body, rfl, hbody⟩ := serve_guarded hne { s with host := rest }
  refine ⟨_, _, (step_request hr).trans hu, fun _ _ => rfl, ?_⟩
  obtain ⟨hf, he⟩ | ⟨hf, hb, he⟩ | ⟨hf, hb, he⟩ :=
    accept_cases { s with host := rest } (responseLength (opOf r.word)) body <;> rw [he]
  · rw [if_pos hf]
    rfl
  · rw [if_neg (by simpa using hf), if_pos hb]
    rfl
  · rw [if_neg (by simpa using hf), if_neg (by simpa using hb)]
    have hverdict := hbody ⟨hf, hb⟩
    cases hc : requestFault r <;> rwa [hc] at hverdict

/-- Settles O47: check (1) refuses the request, and the sequencer of a faulted block stays where it is. -/
theorem faultedBlockIsFrozen : Obligations.FaultedBlockIsFrozen := by
  intro s hf
  refine ⟨fun r rest hr hne => ?_, fun hq => ⟨s.rsp, ?_⟩⟩
  · obtain ⟨u, k, hstep, -, hu⟩ := faultPriority s r rest hr hne
    rw [if_pos hf] at hu
    exact ⟨k, hu ▸ hstep⟩
  · rw [step_sequencer hq (.inl (by simp [awaitsTransport, hf]))]
    exact if_pos hf

end Sys2Proof.Machine

/-! # The statements of 70_reset_and_hazards.md

What a block holds right after power-on, field by field; then RST, whose only step that depends on the state is the
release of the select line. -/

namespace Sys2Proof.Machine

/-! ## Power-on (70_reset_and_hazards.md R161) -/

theorem bitRead_zeroPacket {n : Nat} (a w : Nat) : bitRead (zeroPacket : Packet n) a w = 0#16 := by
  induction w with
  | zero => rfl
  | succ w ih => simp [bitRead, ih]

section
variable (inp : InPacket)

@[simp] theorem afterPowerOn_outpkt : (State.afterPowerOn inp).outpkt = zeroPacket := rfl
@[simp] theorem afterPowerOn_inpkt : (State.afterPowerOn inp).inpkt = inp := rfl
@[simp] theorem afterPowerOn_phase : (State.afterPowerOn inp).phase = .idle := rfl
@[simp] theorem afterPowerOn_idx : (State.afterPowerOn inp).idx = 0#7 := rfl
@[simp] theorem afterPowerOn_busy : (State.afterPowerOn inp).busy = false := rfl
@[simp] theorem afterPowerOn_fault : (State.afterPowerOn inp).fault = false := rfl
@[simp] theorem afterPowerOn_fcode : (State.afterPowerOn inp).fcode = 0#3 := rfl
@[simp] theorem afterPowerOn_sel : (State.afterPowerOn inp).sel = false := rfl
@[simp] theorem afterPowerOn_rsp : (State.afterPowerOn inp).rsp = none := rfl
@[simp] theorem afterPowerOn_trace : (State.afterPowerOn inp).trace = [] := rfl

/-- An idle block with no fault, no response and an empty bus trace: most clauses have a false premise. -/
theorem afterPowerOn_inv : (State.afterPowerOn inp).inv where
  busy_iff := by simp
  idx_le := by simp
  sel_iff := by simp
  fcode_zero := by simp
  fcode_cause := by simp
  no_answer_yet := by simp
  error_zero := by simp
  trace_level := rfl
  trace_orderly := rfl

end

/-- Settles O1: the Output Packet is the zero packet, so each byte and each field of it reads as 0. -/
theorem powerOnValues : Obligations.PowerOnValues := by
  refine ⟨fun inp => ⟨fun i _ => ?_, fun x => ?_, rfl, rfl, rfl, rfl, rfl, rfl, rfl, rfl⟩, _, rfl⟩
  · exact byteAt_zeroPacket i
  · exact bitRead_zeroPacket (outRow x).a0 (outRow x).width

/-- Settles O2: `State.reset` is the power-on state of one content of the Input Packet. -/
theorem powerOnKeepsInvariant : Obligations.PowerOnKeepsInvariant := ⟨afterPowerOn_inv, afterPowerOn_inv _⟩

/-! ## RST (70_reset_and_hazards.md R160) -/

section
variable (s : State)

/-- Both cases of the release in one update: a select line that was not asserted adds no event. -/
theorem selRelease_eq :
    selRelease s = { s with sel := false, trace := s.trace ++ (if s.sel then [.selDeassert] else []) } := by
  obtain ⟨outpkt, inpkt, phase, idx, busy, fault, fcode, sel, rsp, trace, host, board, freeCount⟩ := s
  cases sel with
  | false => simp [selRelease]
  | true => rfl

/-- Everything RST does, as one update of the state. -/
theorem resetBlock_eq :
    resetBlock s = { s with
      outpkt := zeroPacket, inpkt := freePacket s.freeCount, phase := .idle, idx := 0#7, busy := false, fault := false,
      fcode := 0#3, sel := false, rsp := okResponse [],
      trace := s.trace ++ (if s.sel then [.selDeassert] else []), freeCount := s.freeCount + 96 } := by
  rw [resetBlock, selRelease_eq]
  rfl

/-- RST is not behind `Accept()`. -/
theorem exec_rst : exec .rst s = .next (resetBlock s) := rfl

end

/-- Settles O3: the content of the Input Packet is the one of the next free bytes. -/
theorem rstRestoresPowerOn : Obligations.RstRestoresPowerOn := fun s =>
  ⟨freePacket s.freeCount, s.freeCount + 96, (exec_rst s).trans (congrArg _ (resetBlock_eq s))⟩

end Sys2Proof.Machine
